-- ==== Sys2Proof/Word.lean ====
section
/-! DEFINITION. The words of the LC_CTRL model: the bit-vector and word-string types every other file uses.

R8: bits are numbered from 0 at the least significant bit, every register value is unsigned, and
concatenation puts its first argument in the more significant position (so does `++` on `BitVec`). -/

namespace Sys2Proof

/-- One register access: 32 bits (R42). -/
abbrev Word := BitVec 32

/-- One byte of a hash chunk (R71). -/
abbrev Byte := BitVec 8

/-- One half of a token, of a hashed token or of the digest (R71). -/
abbrev HalfToken := BitVec 64

/-- A token, a hashed token, a digest or a hash share: 128 bits, half 0 in bits 63:0 (R71, R78). -/
abbrev Token := BitVec 128

/-- One 16-bit word of an encoded life-cycle state or count (R6, D16). -/
abbrev EncWord := BitVec 16

/-- An encoded life-cycle state or transition count: a string of 16-bit words, word 0 first (R72, R73). -/
abbrev EncString := List EncWord

/-- A BUS stimulus word: 42 bits (R61). -/
abbrev BusWord := BitVec 42

end Sys2Proof
end

