-- ==== Sys2Proof/Syntax.lean ====
section
/-! DEFINITION. The syntax of the LC_CTRL model: the spec's named values (states, kinds, requesters), the operand
records, and `Instr`, with one constructor per row of spec/opcode_table.json. -/

namespace Sys2Proof

/-- The two bus masters (R6 `N_IF`, R9 "requester"). -/
inductive Requester where
  | sw   -- the software core
  | dbg  -- the debug interface
  deriving DecidableEq, Repr

/-- `other(req)` of R8. -/
def Requester.other : Requester → Requester
  | .sw => .dbg
  | .dbg => .sw

/-- The 13 states of the life-cycle FSM (R11); names only, no numeric encoding (R74). -/
inductive FsmState where
  | reset | idle | clkMux | cntIncr | cntProg | transCheck | tokenHash | tokenCheck | transProg
  | postTrans | scrap | escalate | invalid
  deriving DecidableEq, Repr

/-- The 21 real life-cycle states, in the index order of R66. -/
inductive LcState where
  | raw
  | testUnlocked0 | testLocked0 | testUnlocked1 | testLocked1 | testUnlocked2 | testLocked2
  | testUnlocked3 | testLocked3 | testUnlocked4 | testLocked4 | testUnlocked5 | testLocked5
  | testUnlocked6 | testLocked6 | testUnlocked7
  | dev | prod | prodEnd | rma | scrap
  deriving DecidableEq, Repr

/-- What the element `lc_state` can hold (R12): a real state, or LCS_INVALID. -/
inductive LcStateVal where
  | real (l : LcState)
  | lcsInvalid
  deriving DecidableEq, Repr

/-- What the element `lc_cnt` can hold (R13): a count in [0, 24], or CNT_INVALID. -/
inductive LcCntVal where
  | count (n : Fin 25)
  | cntInvalid
  deriving DecidableEq, Repr

/-- The ID-personalization status (R19). -/
inductive IdState where
  | blank | personalized | idInvalid
  deriving DecidableEq, Repr

/-- The six token kinds (R75). -/
inductive TokenKind where
  | invalid | zero | rawUnlock | testUnlock | testExit | rma
  deriving DecidableEq, Repr

/-- The states of the Hash Request Adapter (R21, R100). -/
inductive HashState where
  | hIdle | hFirstSent | hSecondSent
  deriving DecidableEq, Repr

/-- One entry of the Token Store (R20): a hashed token and its validity bit. -/
structure TokenEntry where
  hashed : Token
  valid  : Bool
  deriving DecidableEq, Repr

/-- The secret-valid flag as the OTP backend reports it (R77): the TRUE pattern, the FALSE pattern, or any other. -/
inductive SecretValid where
  | secretTrue | secretFalse | secretCorrupt
  deriving DecidableEq, Repr

/-- `OtpInfo`, the operand of INIT (R77): the answer of `get_lc_info`. R77 gives the two strings the configuration's word counts; any others are
accepted too, and equal no table entry (R118, R119; log entry 30). -/
structure OtpInfo where
  stateEnc    : EncString
  cntEnc      : EncString
  lcValid     : Bool
  secretValid : SecretValid
  testUnlock  : TokenEntry
  testExit    : TokenEntry
  rma         : TokenEntry
  deriving DecidableEq, Repr

/-- The width of a bus access; only `word` is a stimulus (R42, R44). -/
inductive BusWidth where
  | byte | half | word
  deriving DecidableEq, Repr

/-- The named operands of the events, "not packed into a word" (R62). An event reads its own and ignores the rest. -/
structure EvtOperands where
  info     : OtpInfo
  forceRaw : Bool
  ok       : Bool
  share0   : Token
  share1   : Token
  done     : Bool
  deriving DecidableEq, Repr

/-- A stimulus as the environment presents it, before decoding: format BUS (R61) or format EVT (R62). -/
inductive Stimulus where
  | bus (width : BusWidth) (w : BusWord)
  | evt (code : BitVec 8) (ops : EvtOperands)
  deriving DecidableEq, Repr

/-- The stimuli of the block (R60), one constructor per row of spec/opcode_table.json. `req` is the requester tag `ifc`; `w` is the
write data `wdata`; `off` is the byte offset in the three rows that stand for several offsets. The last four are the
pseudo-stimuli of R63: the write data's low bits are fixed by the row, `hi` holds the bits above them. -/
inductive Instr where
  | rdAlertTest (req : Requester)  -- RD_ALERT_TEST (R178)
  | wrAlertTest (req : Requester) (w : Word)  -- WR_ALERT_TEST (R179)
  | rdStatus (req : Requester)  -- RD_STATUS (R180)
  | wrStatus (req : Requester) (w : Word)  -- WR_STATUS (R181)
  | rdClaimTransitionIfRegwen (req : Requester)  -- RD_CLAIM_TRANSITION_IF_REGWEN (R182)
  | wrClaimTransitionIfRegwen (req : Requester) (w : Word)  -- WR_CLAIM_TRANSITION_IF_REGWEN (R183)
  | rdClaimTransitionIf (req : Requester)  -- RD_CLAIM_TRANSITION_IF (R184)
  | wrClaimTransitionIf (req : Requester) (w : Word)  -- WR_CLAIM_TRANSITION_IF (R185)
  | rdTransitionRegwen (req : Requester)  -- RD_TRANSITION_REGWEN (R186)
  | wrTransitionRegwen (req : Requester) (w : Word)  -- WR_TRANSITION_REGWEN (R187)
  | rdTransitionCmd (req : Requester)  -- RD_TRANSITION_CMD (R188)
  | wrTransitionCmd (req : Requester) (w : Word)  -- WR_TRANSITION_CMD (R189)
  | rdTransitionCtrl (req : Requester)  -- RD_TRANSITION_CTRL (R190)
  | wrTransitionCtrl (req : Requester) (w : Word)  -- WR_TRANSITION_CTRL (R191)
  | rdTransitionToken0 (req : Requester)  -- RD_TRANSITION_TOKEN_0 (R192)
  | wrTransitionToken0 (req : Requester) (w : Word)  -- WR_TRANSITION_TOKEN_0 (R193)
  | rdTransitionToken1 (req : Requester)  -- RD_TRANSITION_TOKEN_1 (R194)
  | wrTransitionToken1 (req : Requester) (w : Word)  -- WR_TRANSITION_TOKEN_1 (R195)
  | rdTransitionToken2 (req : Requester)  -- RD_TRANSITION_TOKEN_2 (R196)
  | wrTransitionToken2 (req : Requester) (w : Word)  -- WR_TRANSITION_TOKEN_2 (R197)
  | rdTransitionToken3 (req : Requester)  -- RD_TRANSITION_TOKEN_3 (R198)
  | wrTransitionToken3 (req : Requester) (w : Word)  -- WR_TRANSITION_TOKEN_3 (R199)
  | rdTransitionTarget (req : Requester)  -- RD_TRANSITION_TARGET (R200)
  | wrTransitionTarget (req : Requester) (w : Word)  -- WR_TRANSITION_TARGET (R201)
  | rdLcState (req : Requester)  -- RD_LC_STATE (R202)
  | wrLcState (req : Requester) (w : Word)  -- WR_LC_STATE (R205)
  | rdLcTransitionCnt (req : Requester)  -- RD_LC_TRANSITION_CNT (R203)
  | wrLcTransitionCnt (req : Requester) (w : Word)  -- WR_LC_TRANSITION_CNT (R205)
  | rdLcIdState (req : Requester)  -- RD_LC_ID_STATE (R204)
  | wrLcIdState (req : Requester) (w : Word)  -- WR_LC_ID_STATE (R205)
  | rdHwRevision0 (req : Requester)  -- RD_HW_REVISION0 (R206)
  | wrHwRevision0 (req : Requester) (w : Word)  -- WR_HW_REVISION0 (R205)
  | rdHwRevision1 (req : Requester)  -- RD_HW_REVISION1 (R207)
  | wrHwRevision1 (req : Requester) (w : Word)  -- WR_HW_REVISION1 (R205)
  | rdDeviceId0 (req : Requester)  -- RD_DEVICE_ID_0 (R208)
  | wrDeviceId0 (req : Requester) (w : Word)  -- WR_DEVICE_ID_0 (R205)
  | rdDeviceId1 (req : Requester)  -- RD_DEVICE_ID_1 (R208)
  | wrDeviceId1 (req : Requester) (w : Word)  -- WR_DEVICE_ID_1 (R205)
  | rdDeviceId2 (req : Requester)  -- RD_DEVICE_ID_2 (R208)
  | wrDeviceId2 (req : Requester) (w : Word)  -- WR_DEVICE_ID_2 (R205)
  | rdDeviceId3 (req : Requester)  -- RD_DEVICE_ID_3 (R208)
  | wrDeviceId3 (req : Requester) (w : Word)  -- WR_DEVICE_ID_3 (R205)
  | rdDeviceId4 (req : Requester)  -- RD_DEVICE_ID_4 (R208)
  | wrDeviceId4 (req : Requester) (w : Word)  -- WR_DEVICE_ID_4 (R205)
  | rdDeviceId5 (req : Requester)  -- RD_DEVICE_ID_5 (R208)
  | wrDeviceId5 (req : Requester) (w : Word)  -- WR_DEVICE_ID_5 (R205)
  | rdDeviceId6 (req : Requester)  -- RD_DEVICE_ID_6 (R208)
  | wrDeviceId6 (req : Requester) (w : Word)  -- WR_DEVICE_ID_6 (R205)
  | rdDeviceId7 (req : Requester)  -- RD_DEVICE_ID_7 (R208)
  | wrDeviceId7 (req : Requester) (w : Word)  -- WR_DEVICE_ID_7 (R205)
  | rdManufState0 (req : Requester)  -- RD_MANUF_STATE_0 (R209)
  | wrManufState0 (req : Requester) (w : Word)  -- WR_MANUF_STATE_0 (R205)
  | rdManufState1 (req : Requester)  -- RD_MANUF_STATE_1 (R209)
  | wrManufState1 (req : Requester) (w : Word)  -- WR_MANUF_STATE_1 (R205)
  | rdManufState2 (req : Requester)  -- RD_MANUF_STATE_2 (R209)
  | wrManufState2 (req : Requester) (w : Word)  -- WR_MANUF_STATE_2 (R205)
  | rdManufState3 (req : Requester)  -- RD_MANUF_STATE_3 (R209)
  | wrManufState3 (req : Requester) (w : Word)  -- WR_MANUF_STATE_3 (R205)
  | rdManufState4 (req : Requester)  -- RD_MANUF_STATE_4 (R209)
  | wrManufState4 (req : Requester) (w : Word)  -- WR_MANUF_STATE_4 (R205)
  | rdManufState5 (req : Requester)  -- RD_MANUF_STATE_5 (R209)
  | wrManufState5 (req : Requester) (w : Word)  -- WR_MANUF_STATE_5 (R205)
  | rdManufState6 (req : Requester)  -- RD_MANUF_STATE_6 (R209)
  | wrManufState6 (req : Requester) (w : Word)  -- WR_MANUF_STATE_6 (R205)
  | rdManufState7 (req : Requester)  -- RD_MANUF_STATE_7 (R209)
  | wrManufState7 (req : Requester) (w : Word)  -- WR_MANUF_STATE_7 (R205)
  | rdUnmapped30 (req : Requester)  -- RD_UNMAPPED_30 (R210)
  | wrUnmapped30 (req : Requester) (w : Word)  -- WR_UNMAPPED_30 (R210)
  | rdUnmapped34 (req : Requester)  -- RD_UNMAPPED_34 (R210)
  | wrUnmapped34 (req : Requester) (w : Word)  -- WR_UNMAPPED_34 (R210)
  | rdOutOfRange8C8C (req : Requester)  -- RD_OUT_OF_RANGE_8C_8C (R211)
  | wrOutOfRange8C8C (req : Requester) (w : Word)  -- WR_OUT_OF_RANGE_8C_8C (R211)
  | rdOutOfRange909C (req : Requester) (off : BitVec 8)  -- RD_OUT_OF_RANGE_90_9C (R211)
  | wrOutOfRange909C (req : Requester) (off : BitVec 8) (w : Word)  -- WR_OUT_OF_RANGE_90_9C (R211)
  | rdOutOfRangeA0Bc (req : Requester) (off : BitVec 8)  -- RD_OUT_OF_RANGE_A0_BC (R211)
  | wrOutOfRangeA0Bc (req : Requester) (off : BitVec 8) (w : Word)  -- WR_OUT_OF_RANGE_A0_BC (R211)
  | rdOutOfRangeC0Fc (req : Requester) (off : BitVec 8)  -- RD_OUT_OF_RANGE_C0_FC (R211)
  | wrOutOfRangeC0Fc (req : Requester) (off : BitVec 8) (w : Word)  -- WR_OUT_OF_RANGE_C0_FC (R211)
  | reset  -- RESET (R270)
  | init (info : OtpInfo) (forceRaw : Bool)  -- INIT (R115)
  | otpAck (ok : Bool)  -- OTP_ACK (R146)
  | hashRsp (share0 share1 : Token) (done : Bool)  -- HASH_RSP (R105 to R108)
  | escalate  -- ESCALATE (R154)
  | claim (req : Requester) (hi : BitVec 24)  -- CLAIM (R63, R185)
  | release (req : Requester) (hi : BitVec 24)  -- RELEASE (R63, R185)
  | start (req : Requester) (hi : BitVec 31)  -- START (R63, R189)
  | lockClaim (req : Requester) (hi : BitVec 31)  -- LOCK_CLAIM (R63, R183)
  deriving DecidableEq, Repr

end Sys2Proof
end

