-- ==== Sys2Proof/Config.lean ====
section
/-! DEFINITION. The configuration of one controller (R6, R7) and the free values of the spec (93 U1).

The configuration is "supplied at construction, not at runtime" (R6): it is no part of State. The meanings take it as an argument `c`; the machine runs
them on one device, an OPAQUE well-formed configuration (log entry 5), of which Lean proves nothing but that it is well-formed. -/

namespace Sys2Proof

/-- The states in the index order of R66; the index of a state is its place in this list. -/
def LcState.all : List LcState :=
  [.raw, .testUnlocked0, .testLocked0, .testUnlocked1, .testLocked1, .testUnlocked2, .testLocked2, .testUnlocked3,
   .testLocked3, .testUnlocked4, .testLocked4, .testUnlocked5, .testLocked5, .testUnlocked6, .testLocked6,
   .testUnlocked7, .dev, .prod, .prodEnd, .rma, .scrap]

/-- `idx(S)` of R66. -/
def LcState.idx : LcState → Nat
  | .raw => 0 | .testUnlocked0 => 1 | .testLocked0 => 2 | .testUnlocked1 => 3 | .testLocked1 => 4
  | .testUnlocked2 => 5 | .testLocked2 => 6 | .testUnlocked3 => 7 | .testLocked3 => 8
  | .testUnlocked4 => 9 | .testLocked4 => 10 | .testUnlocked5 => 11 | .testLocked5 => 12
  | .testUnlocked6 => 13 | .testLocked6 => 14 | .testUnlocked7 => 15
  | .dev => 16 | .prod => 17 | .prodEnd => 18 | .rma => 19 | .scrap => 20

namespace Config

/-- `CNT_MAX` (R6). -/
def cntMax : Nat := 24

/-- The default of `LC_STATE_WORDS` (R6, D16). -/
def lcStateWordsDefault : Nat := 20

/-- The default of `LC_CNT_WORDS` (R6, D16). -/
def lcCntWordsDefault : Nat := 24

/-- Entry `k` of a table built from its two endpoints (R72, R73): entry 0 is all zero; entry `k >= 1` takes word `j` from
`last` for `j < k` and from `first` for `j >= k`. -/
def thermometer (first last : EncString) (k : Nat) : EncString :=
  if k = 0 then List.replicate first.length 0 else last.take k ++ first.drop k

end Config

/-- The two tables of encoded values given directly instead of being built from endpoints (R72 "A model may instead take the 21 entries
directly as configuration", D15). -/
structure DirectTables where
  stateEntry : LcState → EncString
  cntEntry   : Fin 25 → EncString

/-- The configuration record of R6, field by field in its order. `N_IF`, `CNT_MAX`, `TOKEN_BITS` and `N_LC_REAL` are fixed and are
the types above. -/
structure Config where
  siliconCreatorId : BitVec 16
  productId        : BitVec 16
  revisionId       : BitVec 8
  /-- `IdValid`: OPEN, the reserved range is not in the source (N16). -/
  idValid          : BitVec 16 → BitVec 16 → BitVec 8 → Bool
  /-- `RAW_UNLOCK_TOKEN`; absent means "not configured" (R92). -/
  rawUnlockToken   : Option Token
  lcStateFirst     : EncString
  lcStateLast      : EncString
  lcCntFirst       : EncString
  lcCntLast        : EncString
  /-- The ownership and SoC-debug endpoints: accepted and read by no rule (R6, D43, N14). -/
  ownershipFirst   : EncString
  ownershipLast    : EncString
  socdbgFirst      : EncString
  socdbgLast       : EncString
  /-- `LC_STATE_WORDS`: a parameter with a default (R6, D16; log entry 20). -/
  lcStateWords     : Nat := Config.lcStateWordsDefault
  /-- `LC_CNT_WORDS`: a parameter with a default (R6, D16; log entry 20). -/
  lcCntWords       : Nat := Config.lcCntWordsDefault
  direct           : Option DirectTables
  /-- `TransMatrix[idx(from)][idx(to)]` (R94, R95). -/
  transMatrix      : LcState → LcState → TokenKind
  /-- `BroadcastTable(fsm, lc_state, id_state)`: 13 bits (R231, R232). -/
  broadcastTable   : FsmState → LcStateVal → IdState → BitVec 13
  /-- `LcHash`: nothing is assumed but that it is a function of the token alone (R92, N18). -/
  lcHash           : Token → Token
  kmacAppId        : Nat
  deviceId         : Fin 8 → Word
  manufState       : Fin 8 → Word
  /-- `VendorTestUnknown`: OPEN (R123, N6). -/
  vendorTestUnknown : OtpInfo → Bool
  /-- `PersonalizedWithoutSecrets(ids, st, tv)`: OPEN (R127, N7); `tv` is the validity bits of TEST_UNLOCK, TEST_EXIT, RMA. -/
  personalizedWithoutSecrets : IdState → LcStateVal → (Bool × Bool × Bool) → Bool
  /-- `BASE_SW`: OPEN, the platform's; used by no rule, since every rule uses offsets only (R41, R56, D3; log entry 29). -/
  baseSw           : Nat
  /-- `BASE_DBG`: as `BASE_SW`. -/
  baseDbg          : Nat

namespace Config

/-- `LcStateTable[idx(l)]` (R72): built from the endpoints, or given directly. -/
def lcStateTable (c : Config) (l : LcState) : EncString :=
  match c.direct with
  | some d => d.stateEntry l
  | none => thermometer c.lcStateFirst c.lcStateLast l.idx

/-- `LcCntTable[k]` (R73). -/
def lcCntTable (c : Config) (k : Fin 25) : EncString :=
  match c.direct with
  | some d => d.cntEntry k
  | none => thermometer c.lcCntFirst c.lcCntLast k.val

/-- Bit 6 of the broadcast bitmap alone: ESCALATE_EN and no other line (R230, R232 items 2 to 4). -/
def onlyEscalateEn : BitVec 13 := 0x0040#13

/-- A well-formed configuration (R7, with R72's condition on the state endpoints, R95 items 3 and 4, and R232). R73 has only "Same construction": that the
COUNT endpoints agree in word 0 as well (`cnt_endpoints_agree`) is the model's extension of R72's condition to them (DEDUCED, log entry 28). R95 items 1 and 2 hold by the type of
`transMatrix`; "the raw-unlock token, when given, is exactly 128 bits" holds by the type of `rawUnlockToken`. -/
structure WellFormed (c : Config) : Prop where
  ids_valid : c.idValid c.siliconCreatorId c.productId c.revisionId = true
  state_words : c.lcStateFirst.length = c.lcStateWords ∧ c.lcStateLast.length = c.lcStateWords
  cnt_words : c.lcCntFirst.length = c.lcCntWords ∧ c.lcCntLast.length = c.lcCntWords
  /-- R72: "`lc_state_first[0] == lc_state_last[0]`, which a well-formed configuration satisfies". -/
  state_endpoints_agree : c.lcStateFirst[0]? = c.lcStateLast[0]?
  /-- The model's extension of R72's condition to R73, which states none (DEDUCED, log entry 28). -/
  cnt_endpoints_agree : c.lcCntFirst[0]? = c.lcCntLast[0]?
  state_entry_words : ∀ l, (c.lcStateTable l).length = c.lcStateWords
  cnt_entry_words : ∀ k, (c.lcCntTable k).length = c.lcCntWords
  raw_entry_zero : c.lcStateTable .raw = List.replicate c.lcStateWords 0
  cnt_zero_entry_zero : c.lcCntTable 0 = List.replicate c.lcCntWords 0
  state_table_distinct : ∀ l l', c.lcStateTable l = c.lcStateTable l' → l = l'
  cnt_table_distinct : ∀ k k', c.lcCntTable k = c.lcCntTable k' → k = k'
  matrix_raw_unlock : c.transMatrix .raw .testUnlocked0 = .rawUnlock
  matrix_scrap_row : ∀ l, c.transMatrix .scrap l = .invalid
  broadcast_reset : ∀ l l' i i', c.broadcastTable .reset l i = c.broadcastTable .reset l' i'
  broadcast_escalate : ∀ l i, c.broadcastTable .escalate l i = onlyEscalateEn
  broadcast_scrap : ∀ l i, c.broadcastTable .scrap l i = onlyEscalateEn
  broadcast_invalid : ∀ l i, c.broadcastTable .invalid l i = onlyEscalateEn

/-- A device: a configuration with the proof that it is well-formed. "A configuration that is not well-formed constructs no device" (R7, R250, U9). -/
structure Device where
  config : Config
  wf     : config.WellFormed

/-- SOME well-formed configuration, of which nothing else can be proved (log entry 5): the parameters the platform supplies (R6, U11, U12).
It has no body; the argument only shows that well-formed configurations exist. -/
opaque anyDevice [Inhabited Device] : Device

/-- The free value a read of LC_STATE returns in its field, bits 29:0, while `fsm == RESET` (R30, R202, R287, U1), drawn by the
State's counter (log entry 8). -/
opaque freeLcState : Nat → BitVec 30

/-- The free value a read of LC_TRANSITION_CNT returns in its field, bits 4:0, while `lc_cnt` holds no value (R30, R203, R287, U1; log entries 8, 9). -/
opaque freeLcCnt : Nat → BitVec 5

/-- The free value a read of LC_ID_STATE returns while `id_state` holds no value (R30, R204, R287, U1; log entries 8, 9). -/
opaque freeIdState : Nat → Word

end Config

end Sys2Proof
end

