-- ==== Sys2Proof/WellFormed.lean ====
section
/-! DEFINITION. Which terms of `Instr` are stimuli: the checks on an instruction's operands. -/

namespace Sys2Proof

/-- A word-aligned byte offset (R42, R44). -/
def offAligned (off : BitVec 8) : Bool := off.extractLsb' 0 2 == 0#2

/-- A well-formed instruction. The three classes of out-of-range offsets hold aligned offsets of their own range (R211); and a write
whose word is that of a pseudo-stimulus (R63) is written with the pseudo-stimulus's own constructor, so that each word has one instruction (log entry 11). The
MEANING of such a write does not rest on this: it covers every write data. The strings of INIT's operand may have any number of words: the device's own word
counts are parameters (R6), and a string that is no table entry decodes to INVALID (R118, R119; log entry 30). -/
def Instr.wellFormed : Instr → Bool
  | .wrClaimTransitionIfRegwen _ w => w.getLsbD 0            -- bit 0 clear is LOCK_CLAIM
  | .wrClaimTransitionIf _ w => w.extractLsb' 0 8 != 0x96#8 && w.extractLsb' 0 8 != 0x69#8   -- CLAIM, RELEASE
  | .wrTransitionCmd _ w => !w.getLsbD 0                     -- bit 0 set is START
  | .rdOutOfRange909C _ off | .wrOutOfRange909C _ off _ => offAligned off && 0x90#8 ≤ off && off ≤ 0x9C#8
  | .rdOutOfRangeA0Bc _ off | .wrOutOfRangeA0Bc _ off _ => offAligned off && 0xA0#8 ≤ off && off ≤ 0xBC#8
  | .rdOutOfRangeC0Fc _ off | .wrOutOfRangeC0Fc _ off _ => offAligned off && 0xC0#8 ≤ off
  | .rdAlertTest _ | .wrAlertTest _ _ | .rdStatus _ | .wrStatus _ _ | .rdClaimTransitionIfRegwen _
  | .rdClaimTransitionIf _ | .rdTransitionRegwen _ | .wrTransitionRegwen _ _ | .rdTransitionCmd _
  | .rdTransitionCtrl _ | .wrTransitionCtrl _ _ | .rdTransitionToken0 _ | .wrTransitionToken0 _ _
  | .rdTransitionToken1 _ | .wrTransitionToken1 _ _ | .rdTransitionToken2 _ | .wrTransitionToken2 _ _
  | .rdTransitionToken3 _ | .wrTransitionToken3 _ _ | .rdTransitionTarget _ | .wrTransitionTarget _ _
  | .rdLcState _ | .wrLcState _ _ | .rdLcTransitionCnt _ | .wrLcTransitionCnt _ _ | .rdLcIdState _
  | .wrLcIdState _ _ | .rdHwRevision0 _ | .wrHwRevision0 _ _ | .rdHwRevision1 _ | .wrHwRevision1 _ _
  | .rdDeviceId0 _ | .wrDeviceId0 _ _ | .rdDeviceId1 _ | .wrDeviceId1 _ _ | .rdDeviceId2 _ | .wrDeviceId2 _ _
  | .rdDeviceId3 _ | .wrDeviceId3 _ _ | .rdDeviceId4 _ | .wrDeviceId4 _ _ | .rdDeviceId5 _ | .wrDeviceId5 _ _
  | .rdDeviceId6 _ | .wrDeviceId6 _ _ | .rdDeviceId7 _ | .wrDeviceId7 _ _ | .rdManufState0 _
  | .wrManufState0 _ _ | .rdManufState1 _ | .wrManufState1 _ _ | .rdManufState2 _ | .wrManufState2 _ _
  | .rdManufState3 _ | .wrManufState3 _ _ | .rdManufState4 _ | .wrManufState4 _ _ | .rdManufState5 _
  | .wrManufState5 _ _ | .rdManufState6 _ | .wrManufState6 _ _ | .rdManufState7 _ | .wrManufState7 _ _
  | .rdUnmapped30 _ | .wrUnmapped30 _ _ | .rdUnmapped34 _ | .wrUnmapped34 _ _ | .rdOutOfRange8C8C _
  | .wrOutOfRange8C8C _ _ | .reset | .init _ _ | .otpAck _ | .hashRsp _ _ _ | .escalate | .claim _ _ | .release _ _
  | .start _ _ | .lockClaim _ _ => true

end Sys2Proof
end

