-- ==== Sys2Proof/Decode.lean ====
section
/-! DEFINITION. The decoder, total on every stimulus and refusing by name, and after it the encoder, both written from R61, R62, R41 and
spec/opcode_table.json. -/

namespace Sys2Proof

/-- Why a presentation is no stimulus of the block. -/
inductive DecodeError where
  | notWordWide     -- a bus access that is not 32 bits wide (R44, 93 U2)
  | misaligned      -- a bus offset that is not a multiple of 4 (R44, R61, 93 U2)
  | notAnEvent      -- an event code other than 0x01 to 0x05 (R62, 93 U15)
  deriving DecidableEq, Repr

/-- Field `ifc`, bit 41 (R61): 0 = SW, 1 = DBG. -/
def busIfc (w : BusWord) : Requester := if w.getLsbD 41 then .dbg else .sw

/-- Field `we`, bit 40 (R61). -/
def busWe (w : BusWord) : Bool := w.getLsbD 40

/-- Field `off`, bits 39:32 (R61). -/
def busOff (w : BusWord) : BitVec 8 := w.extractLsb' 32 8

/-- Field `wdata`, bits 31:0 (R61). -/
def busWdata (w : BusWord) : Word := w.extractLsb' 0 32

/-- The read of the register at an aligned offset (R41; out-of-range classes by R211 and the opcode table). -/
def decodeRead (req : Requester) (off : BitVec 8) : Instr :=
  match off.toNat with
  | 0x00 => .rdAlertTest req
  | 0x04 => .rdStatus req
  | 0x08 => .rdClaimTransitionIfRegwen req
  | 0x0C => .rdClaimTransitionIf req
  | 0x10 => .rdTransitionRegwen req
  | 0x14 => .rdTransitionCmd req
  | 0x18 => .rdTransitionCtrl req
  | 0x1C => .rdTransitionToken0 req
  | 0x20 => .rdTransitionToken1 req
  | 0x24 => .rdTransitionToken2 req
  | 0x28 => .rdTransitionToken3 req
  | 0x2C => .rdTransitionTarget req
  | 0x30 => .rdUnmapped30 req
  | 0x34 => .rdUnmapped34 req
  | 0x38 => .rdLcState req
  | 0x3C => .rdLcTransitionCnt req
  | 0x40 => .rdLcIdState req
  | 0x44 => .rdHwRevision0 req
  | 0x48 => .rdHwRevision1 req
  | 0x4C => .rdDeviceId0 req
  | 0x50 => .rdDeviceId1 req
  | 0x54 => .rdDeviceId2 req
  | 0x58 => .rdDeviceId3 req
  | 0x5C => .rdDeviceId4 req
  | 0x60 => .rdDeviceId5 req
  | 0x64 => .rdDeviceId6 req
  | 0x68 => .rdDeviceId7 req
  | 0x6C => .rdManufState0 req
  | 0x70 => .rdManufState1 req
  | 0x74 => .rdManufState2 req
  | 0x78 => .rdManufState3 req
  | 0x7C => .rdManufState4 req
  | 0x80 => .rdManufState5 req
  | 0x84 => .rdManufState6 req
  | 0x88 => .rdManufState7 req
  | 0x8C => .rdOutOfRange8C8C req
  | _ =>
    if off ≤ 0x9C#8 then .rdOutOfRange909C req off
    else if off ≤ 0xBC#8 then .rdOutOfRangeA0Bc req off
    else .rdOutOfRangeC0Fc req off

/-- The write of the register at an aligned offset (R41, R211). A word of a pseudo-stimulus (R63) decodes to that pseudo-stimulus: its row of the opcode
table fixes more bits (log entry 11). -/
def decodeWrite (req : Requester) (off : BitVec 8) (w : Word) : Instr :=
  match off.toNat with
  | 0x00 => .wrAlertTest req w
  | 0x04 => .wrStatus req w
  | 0x08 => if w.getLsbD 0 then .wrClaimTransitionIfRegwen req w else .lockClaim req (w.extractLsb' 1 31)
  | 0x0C => 
    if w.extractLsb' 0 8 = 0x96#8 then .claim req (w.extractLsb' 8 24)
    else if w.extractLsb' 0 8 = 0x69#8 then .release req (w.extractLsb' 8 24)
    else .wrClaimTransitionIf req w
  | 0x10 => .wrTransitionRegwen req w
  | 0x14 => if w.getLsbD 0 then .start req (w.extractLsb' 1 31) else .wrTransitionCmd req w
  | 0x18 => .wrTransitionCtrl req w
  | 0x1C => .wrTransitionToken0 req w
  | 0x20 => .wrTransitionToken1 req w
  | 0x24 => .wrTransitionToken2 req w
  | 0x28 => .wrTransitionToken3 req w
  | 0x2C => .wrTransitionTarget req w
  | 0x30 => .wrUnmapped30 req w
  | 0x34 => .wrUnmapped34 req w
  | 0x38 => .wrLcState req w
  | 0x3C => .wrLcTransitionCnt req w
  | 0x40 => .wrLcIdState req w
  | 0x44 => .wrHwRevision0 req w
  | 0x48 => .wrHwRevision1 req w
  | 0x4C => .wrDeviceId0 req w
  | 0x50 => .wrDeviceId1 req w
  | 0x54 => .wrDeviceId2 req w
  | 0x58 => .wrDeviceId3 req w
  | 0x5C => .wrDeviceId4 req w
  | 0x60 => .wrDeviceId5 req w
  | 0x64 => .wrDeviceId6 req w
  | 0x68 => .wrDeviceId7 req w
  | 0x6C => .wrManufState0 req w
  | 0x70 => .wrManufState1 req w
  | 0x74 => .wrManufState2 req w
  | 0x78 => .wrManufState3 req w
  | 0x7C => .wrManufState4 req w
  | 0x80 => .wrManufState5 req w
  | 0x84 => .wrManufState6 req w
  | 0x88 => .wrManufState7 req w
  | 0x8C => .wrOutOfRange8C8C req w
  | _ =>
    if off ≤ 0x9C#8 then .wrOutOfRange909C req off w
    else if off ≤ 0xBC#8 then .wrOutOfRangeA0Bc req off w
    else .wrOutOfRangeC0Fc req off w

/-- Format BUS (R61): every combination of `ifc`, `we` and an aligned `off` is defined (93 U15). -/
def decodeBus (w : BusWord) : Except DecodeError Instr :=
  if offAligned (busOff w) then
    .ok (if busWe w then decodeWrite (busIfc w) (busOff w) (busWdata w) else decodeRead (busIfc w) (busOff w))
  else .error .misaligned

/-- Format EVT (R62). -/
def decodeEvt (code : BitVec 8) (ops : EvtOperands) : Except DecodeError Instr :=
  match code.toNat with
  | 0x01 => .ok .reset
  | 0x02 => .ok (.init ops.info ops.forceRaw)
  | 0x03 => .ok (.otpAck ops.ok)
  | 0x04 => .ok (.hashRsp ops.share0 ops.share1 ops.done)
  | 0x05 => .ok .escalate
  | _ => .error .notAnEvent

/-- The decoder. -/
def decode : Stimulus → Except DecodeError Instr
  | .bus .word w => decodeBus w
  | .bus .byte _ => .error .notWordWide
  | .bus .half _ => .error .notWordWide
  | .evt code ops => decodeEvt code ops

/-- Operands of zeros: every bit 0, the words of the encoded strings included, which have the default word counts (D16); the flag `secret_valid` at FALSE. -/
def EvtOperands.zero : EvtOperands where
  info :=
    { stateEnc := List.replicate Config.lcStateWordsDefault 0#16
      cntEnc := List.replicate Config.lcCntWordsDefault 0#16
      lcValid := false
      secretValid := .secretFalse
      testUnlock := ⟨0#128, false⟩
      testExit := ⟨0#128, false⟩
      rma := ⟨0#128, false⟩ }
  forceRaw := false
  ok := false
  share0 := 0#128
  share1 := 0#128
  done := false

/-- The BUS word of its four fields (R61). -/
def busWord (req : Requester) (we : Bool) (off : BitVec 8) (w : Word) : BusWord :=
  BitVec.ofBool (req == .dbg) ++ BitVec.ofBool we ++ off ++ w

/-- The stimulus of a read; the ignored `wdata` of a read is written as 0 (R61, log entry 12). -/
def busRead (req : Requester) (off : BitVec 8) : Stimulus := .bus .word (busWord req false off 0#32)

/-- The stimulus of a write (R61). -/
def busWrite (req : Requester) (off : BitVec 8) (w : Word) : Stimulus := .bus .word (busWord req true off w)

/-- The encoder: the stimulus of an instruction (R41, R61 to R63). An event's operands that it does not have are zeros. -/
def encode : Instr → Stimulus
  | .rdAlertTest req => busRead req 0x00#8
  | .wrAlertTest req w => busWrite req 0x00#8 w
  | .rdStatus req => busRead req 0x04#8
  | .wrStatus req w => busWrite req 0x04#8 w
  | .rdClaimTransitionIfRegwen req => busRead req 0x08#8
  | .wrClaimTransitionIfRegwen req w => busWrite req 0x08#8 w
  | .rdClaimTransitionIf req => busRead req 0x0C#8
  | .wrClaimTransitionIf req w => busWrite req 0x0C#8 w
  | .rdTransitionRegwen req => busRead req 0x10#8
  | .wrTransitionRegwen req w => busWrite req 0x10#8 w
  | .rdTransitionCmd req => busRead req 0x14#8
  | .wrTransitionCmd req w => busWrite req 0x14#8 w
  | .rdTransitionCtrl req => busRead req 0x18#8
  | .wrTransitionCtrl req w => busWrite req 0x18#8 w
  | .rdTransitionToken0 req => busRead req 0x1C#8
  | .wrTransitionToken0 req w => busWrite req 0x1C#8 w
  | .rdTransitionToken1 req => busRead req 0x20#8
  | .wrTransitionToken1 req w => busWrite req 0x20#8 w
  | .rdTransitionToken2 req => busRead req 0x24#8
  | .wrTransitionToken2 req w => busWrite req 0x24#8 w
  | .rdTransitionToken3 req => busRead req 0x28#8
  | .wrTransitionToken3 req w => busWrite req 0x28#8 w
  | .rdTransitionTarget req => busRead req 0x2C#8
  | .wrTransitionTarget req w => busWrite req 0x2C#8 w
  | .rdLcState req => busRead req 0x38#8
  | .wrLcState req w => busWrite req 0x38#8 w
  | .rdLcTransitionCnt req => busRead req 0x3C#8
  | .wrLcTransitionCnt req w => busWrite req 0x3C#8 w
  | .rdLcIdState req => busRead req 0x40#8
  | .wrLcIdState req w => busWrite req 0x40#8 w
  | .rdHwRevision0 req => busRead req 0x44#8
  | .wrHwRevision0 req w => busWrite req 0x44#8 w
  | .rdHwRevision1 req => busRead req 0x48#8
  | .wrHwRevision1 req w => busWrite req 0x48#8 w
  | .rdDeviceId0 req => busRead req 0x4C#8
  | .wrDeviceId0 req w => busWrite req 0x4C#8 w
  | .rdDeviceId1 req => busRead req 0x50#8
  | .wrDeviceId1 req w => busWrite req 0x50#8 w
  | .rdDeviceId2 req => busRead req 0x54#8
  | .wrDeviceId2 req w => busWrite req 0x54#8 w
  | .rdDeviceId3 req => busRead req 0x58#8
  | .wrDeviceId3 req w => busWrite req 0x58#8 w
  | .rdDeviceId4 req => busRead req 0x5C#8
  | .wrDeviceId4 req w => busWrite req 0x5C#8 w
  | .rdDeviceId5 req => busRead req 0x60#8
  | .wrDeviceId5 req w => busWrite req 0x60#8 w
  | .rdDeviceId6 req => busRead req 0x64#8
  | .wrDeviceId6 req w => busWrite req 0x64#8 w
  | .rdDeviceId7 req => busRead req 0x68#8
  | .wrDeviceId7 req w => busWrite req 0x68#8 w
  | .rdManufState0 req => busRead req 0x6C#8
  | .wrManufState0 req w => busWrite req 0x6C#8 w
  | .rdManufState1 req => busRead req 0x70#8
  | .wrManufState1 req w => busWrite req 0x70#8 w
  | .rdManufState2 req => busRead req 0x74#8
  | .wrManufState2 req w => busWrite req 0x74#8 w
  | .rdManufState3 req => busRead req 0x78#8
  | .wrManufState3 req w => busWrite req 0x78#8 w
  | .rdManufState4 req => busRead req 0x7C#8
  | .wrManufState4 req w => busWrite req 0x7C#8 w
  | .rdManufState5 req => busRead req 0x80#8
  | .wrManufState5 req w => busWrite req 0x80#8 w
  | .rdManufState6 req => busRead req 0x84#8
  | .wrManufState6 req w => busWrite req 0x84#8 w
  | .rdManufState7 req => busRead req 0x88#8
  | .wrManufState7 req w => busWrite req 0x88#8 w
  | .rdUnmapped30 req => busRead req 0x30#8
  | .wrUnmapped30 req w => busWrite req 0x30#8 w
  | .rdUnmapped34 req => busRead req 0x34#8
  | .wrUnmapped34 req w => busWrite req 0x34#8 w
  | .rdOutOfRange8C8C req => busRead req 0x8C#8
  | .wrOutOfRange8C8C req w => busWrite req 0x8C#8 w
  | .rdOutOfRange909C req off => busRead req off
  | .wrOutOfRange909C req off w => busWrite req off w
  | .rdOutOfRangeA0Bc req off => busRead req off
  | .wrOutOfRangeA0Bc req off w => busWrite req off w
  | .rdOutOfRangeC0Fc req off => busRead req off
  | .wrOutOfRangeC0Fc req off w => busWrite req off w
  | .reset => .evt 0x01#8 EvtOperands.zero
  | .init info forceRaw => .evt 0x02#8 { EvtOperands.zero with info := info, forceRaw := forceRaw }
  | .otpAck ok => .evt 0x03#8 { EvtOperands.zero with ok := ok }
  | .hashRsp share0 share1 done => .evt 0x04#8 { EvtOperands.zero with share0 := share0, share1 := share1, done := done }
  | .escalate => .evt 0x05#8 EvtOperands.zero
  | .claim req hi => busWrite req 0x0C#8 (hi ++ 0x96#8)
  | .release req hi => busWrite req 0x0C#8 (hi ++ 0x69#8)
  | .start req hi => busWrite req 0x14#8 (hi ++ 1#1)
  | .lockClaim req hi => busWrite req 0x08#8 (hi ++ 0#1)

/-- The stimulus whose bits spec/opcode_table.json numbers as `w`, `nbits` of them in whole bytes: a row of one byte is of format EVT, whose named operands
(not packed into a word, R62) are then zeros; a longer row is of format BUS, whose word has 42 bits (log entry 19). -/
def tableStimulus (nbits w : Nat) : Stimulus :=
  if nbits ≤ 8 then .evt (BitVec.ofNat 8 w) EvtOperands.zero else .bus .word (BitVec.ofNat 42 w)

/-- The instruction the decoder reads from a word of the opcode table. -/
def decodeTableWord (nbits w : Nat) : Option Instr :=
  match decode (tableStimulus nbits w) with
  | .ok i => some i
  | .error _ => none

end Sys2Proof
end

