-- ==== Sys2Proof/Machine/Reference.lean ====
section
/-! DEFINITION. The reference configuration: the default values the spec gives for its parameters (R96, R123, R127, R236) with the spec's test configuration
(95_test_vectors.md section 0) for the rest; and the device the machine runs on.

The reference values are marked in the spec "[from general knowledge, not in source]" (PRESUMED, log entry 25). The machine does not rest on them: its
device is opaque. They show that a well-formed configuration exists, and the tests compute with them. -/

namespace Sys2Proof.Machine

/-- The letters of the matrix table (R75, R96): `.` INVALID, `Z` ZERO, `W` RAW_UNLOCK, `U` TEST_UNLOCK, `X` TEST_EXIT, `R` RMA. -/
def kindOfLetter : Char → TokenKind
  | 'Z' => .zero
  | 'W' => .rawUnlock
  | 'U' => .testUnlock
  | 'X' => .testExit
  | 'R' => .rma
  | _ => .invalid

/-- The rows of the reference matrix, transcribed from the table of R96: row `from`, one letter per `to` in index order. -/
def refMatrixRow : LcState → List Char
  | .raw => ['.', 'W', '.', 'W', '.', 'W', '.', 'W', '.', 'W', '.', 'W', '.', 'W', '.', 'W', '.', '.', '.', '.', 'Z']
  | .testUnlocked0 => ['.', '.', 'Z', '.', 'Z', '.', 'Z', '.', 'Z', '.', 'Z', '.', 'Z', '.', 'Z', '.', 'X', 'X', 'X', 'Z', 'Z']
  | .testLocked0 => ['.', '.', '.', 'U', '.', 'U', '.', 'U', '.', 'U', '.', 'U', '.', 'U', '.', 'U', 'X', 'X', 'X', '.', 'Z']
  | .testUnlocked1 => ['.', '.', '.', '.', 'Z', '.', 'Z', '.', 'Z', '.', 'Z', '.', 'Z', '.', 'Z', '.', 'X', 'X', 'X', 'Z', 'Z']
  | .testLocked1 => ['.', '.', '.', '.', '.', 'U', '.', 'U', '.', 'U', '.', 'U', '.', 'U', '.', 'U', 'X', 'X', 'X', '.', 'Z']
  | .testUnlocked2 => ['.', '.', '.', '.', '.', '.', 'Z', '.', 'Z', '.', 'Z', '.', 'Z', '.', 'Z', '.', 'X', 'X', 'X', 'Z', 'Z']
  | .testLocked2 => ['.', '.', '.', '.', '.', '.', '.', 'U', '.', 'U', '.', 'U', '.', 'U', '.', 'U', 'X', 'X', 'X', '.', 'Z']
  | .testUnlocked3 => ['.', '.', '.', '.', '.', '.', '.', '.', 'Z', '.', 'Z', '.', 'Z', '.', 'Z', '.', 'X', 'X', 'X', 'Z', 'Z']
  | .testLocked3 => ['.', '.', '.', '.', '.', '.', '.', '.', '.', 'U', '.', 'U', '.', 'U', '.', 'U', 'X', 'X', 'X', '.', 'Z']
  | .testUnlocked4 => ['.', '.', '.', '.', '.', '.', '.', '.', '.', '.', 'Z', '.', 'Z', '.', 'Z', '.', 'X', 'X', 'X', 'Z', 'Z']
  | .testLocked4 => ['.', '.', '.', '.', '.', '.', '.', '.', '.', '.', '.', 'U', '.', 'U', '.', 'U', 'X', 'X', 'X', '.', 'Z']
  | .testUnlocked5 => ['.', '.', '.', '.', '.', '.', '.', '.', '.', '.', '.', '.', 'Z', '.', 'Z', '.', 'X', 'X', 'X', 'Z', 'Z']
  | .testLocked5 => ['.', '.', '.', '.', '.', '.', '.', '.', '.', '.', '.', '.', '.', 'U', '.', 'U', 'X', 'X', 'X', '.', 'Z']
  | .testUnlocked6 => ['.', '.', '.', '.', '.', '.', '.', '.', '.', '.', '.', '.', '.', '.', 'Z', '.', 'X', 'X', 'X', 'Z', 'Z']
  | .testLocked6 => ['.', '.', '.', '.', '.', '.', '.', '.', '.', '.', '.', '.', '.', '.', '.', 'U', 'X', 'X', 'X', '.', 'Z']
  | .testUnlocked7 => ['.', '.', '.', '.', '.', '.', '.', '.', '.', '.', '.', '.', '.', '.', '.', '.', 'X', 'X', 'X', 'Z', 'Z']
  | .dev => ['.', '.', '.', '.', '.', '.', '.', '.', '.', '.', '.', '.', '.', '.', '.', '.', '.', '.', '.', 'R', 'Z']
  | .prod => ['.', '.', '.', '.', '.', '.', '.', '.', '.', '.', '.', '.', '.', '.', '.', '.', '.', '.', '.', 'R', 'Z']
  | .prodEnd => ['.', '.', '.', '.', '.', '.', '.', '.', '.', '.', '.', '.', '.', '.', '.', '.', '.', '.', '.', '.', 'Z']
  | .rma => ['.', '.', '.', '.', '.', '.', '.', '.', '.', '.', '.', '.', '.', '.', '.', '.', '.', '.', '.', '.', 'Z']
  | .scrap => ['.', '.', '.', '.', '.', '.', '.', '.', '.', '.', '.', '.', '.', '.', '.', '.', '.', '.', '.', '.', '.']

/-- The reference value of `TransMatrix` (R96). PRESUMED (log entry 25). -/
def refMatrix (f t : LcState) : TokenKind :=
  kindOfLetter ((refMatrixRow f).getD t.idx '.')

/-- Step 2 of the reference broadcast table (R236): the lines by `lc_state` and `id_state`. -/
def refBroadcastLive (l : LcStateVal) (i : IdState) : BitVec 13 :=
  -- CREATOR_SEED_SW_RW_EN (bit 8) if BLANK, SEED_HW_RD_EN (bit 12) if PERSONALIZED
  let byId : BitVec 13 := match i with
    | .blank => 0x0100#13
    | .personalized => 0x1000#13
    | .idInvalid => 0x0000#13
  match l with
  | .lcsInvalid => 0x0040#13
  | .real .raw => 0x0001#13
  | .real .testLocked0 | .real .testLocked1 | .real .testLocked2 | .real .testLocked3
  | .real .testLocked4 | .real .testLocked5 | .real .testLocked6 => 0x0001#13
  | .real .testUnlocked0 | .real .testUnlocked1 | .real .testUnlocked2 | .real .testUnlocked3
  | .real .testUnlocked4 | .real .testUnlocked5 | .real .testUnlocked6 => 0x081F#13
  | .real .testUnlocked7 => 0x081B#13
  | .real .dev => 0x0E38#13 ||| byId
  | .real .prod | .real .prodEnd => 0x0E30#13 ||| byId
  | .real .rma => 0x1F3F#13
  | .real .scrap => 0x0040#13

/-- The reference value of `BroadcastTable` (R236, step 1 by `fsm`). PRESUMED (log entry 25). -/
def refBroadcast (f : FsmState) (l : LcStateVal) (i : IdState) : BitVec 13 :=
  match f with
  | .reset | .postTrans => 0x0000#13
  | .scrap | .escalate | .invalid => 0x0040#13
  | .idle | .clkMux | .cntIncr | .cntProg | .transCheck | .tokenHash | .tokenCheck => refBroadcastLive l i
  | .transProg => refBroadcastLive l i ||| 0x0080#13

/-- The default of `VendorTestUnknown` (R123): the constant false. -/
def refVendorTestUnknown (_ : OtpInfo) : Bool := false

/-- The default of `PersonalizedWithoutSecrets` (R127): PERSONALIZED with no valid RMA token. -/
def refPersonalizedWithoutSecrets (ids : IdState) (_ : LcStateVal) (tv : Bool × Bool × Bool) : Bool :=
  (ids == .personalized) && !tv.2.2

/-- Endpoints for the reference tables: any strings with word 0 in common and the later words different will do (95 section 0 "any well-formed tables"). -/
def refEndpoint (fam : EncWord) (n : Nat) : EncString :=
  0x0A00#16 :: (List.range (n - 1)).map (fun j => fam + BitVec.ofNat 16 (j + 1))

/-- The reference configuration: 95_test_vectors.md section 0, with the defaults of R96, R123, R127, R236. `LcHash` is that section's stand-in,
the complement. -/
def refConfig : Config where
  siliconCreatorId := 0x4001#16
  productId := 0x4002#16
  revisionId := 0x01#8
  idValid := fun _ _ _ => true
  rawUnlockToken := some 0xFFEEDDCCBBAA99887766554433221100#128
  lcStateFirst := refEndpoint 0x1000#16 Config.lcStateWordsDefault
  lcStateLast := refEndpoint 0x2000#16 Config.lcStateWordsDefault
  lcCntFirst := refEndpoint 0x3000#16 Config.lcCntWordsDefault
  lcCntLast := refEndpoint 0x4000#16 Config.lcCntWordsDefault
  ownershipFirst := []
  ownershipLast := []
  socdbgFirst := []
  socdbgLast := []
  lcStateWords := Config.lcStateWordsDefault
  lcCntWords := Config.lcCntWordsDefault
  direct := none
  transMatrix := refMatrix
  broadcastTable := refBroadcast
  lcHash := fun t => ~~~t
  kmacAppId := 0
  deviceId := fun i => 0xD0000000#32 + BitVec.ofNat 32 i.val
  manufState := fun i => 0xA0000000#32 + BitVec.ofNat 32 i.val
  vendorTestUnknown := refVendorTestUnknown
  personalizedWithoutSecrets := refPersonalizedWithoutSecrets
  baseSw := 0
  baseDbg := 0

/-- Which state an entry of the reference table belongs to: it shows that the entries differ. -/
def refStateOf (e : EncString) : Option LcState :=
  LcState.all.find? (fun l => refConfig.lcStateTable l == e)

/-- Which count an entry of the reference table belongs to. -/
def refCntOf (e : EncString) : Option (Fin 25) :=
  (List.finRange 25).find? (fun k => refConfig.lcCntTable k == e)

theorem refStateOf_entry (l : LcState) : refStateOf (refConfig.lcStateTable l) = some l := by
  cases l <;> decide

theorem refCntOf_entry : ∀ k : Fin 25, refCntOf (refConfig.lcCntTable k) = some k := by
  decide

/-- The reference configuration is well-formed (R7), so devices exist. -/
theorem refConfig_wellFormed : refConfig.WellFormed where
  ids_valid := rfl
  state_words := by decide
  cnt_words := by decide
  state_endpoints_agree := by decide
  cnt_endpoints_agree := by decide
  state_entry_words := by intro l; cases l <;> decide
  cnt_entry_words := by decide
  raw_entry_zero := by decide
  cnt_zero_entry_zero := by decide
  state_table_distinct := fun l l' h =>
    Option.some.inj ((refStateOf_entry l).symm.trans ((congrArg refStateOf h).trans (refStateOf_entry l')))
  cnt_table_distinct := fun k k' h =>
    Option.some.inj ((refCntOf_entry k).symm.trans ((congrArg refCntOf h).trans (refCntOf_entry k')))
  matrix_raw_unlock := by decide
  matrix_scrap_row := by intro l; cases l <;> decide
  broadcast_reset := fun _ _ _ _ => rfl
  broadcast_escalate := fun _ _ => rfl
  broadcast_scrap := fun _ _ => rfl
  broadcast_invalid := fun _ _ => rfl

/-- The configuration of the device the machine models: opaque, well-formed, nothing else (R6, R250; log entry 5). -/
def device : Config := (@Config.anyDevice ⟨⟨refConfig, refConfig_wellFormed⟩⟩).config

theorem device_wellFormed : device.WellFormed :=
  (@Config.anyDevice ⟨⟨refConfig, refConfig_wellFormed⟩⟩).wf

end Sys2Proof.Machine
end

