-- ==== Sys2Proof/Machine/State.lean ====
section
/-! DEFINITION. The state of the machine: every element of 10_state.md R10, and the model's own fields for what stands outside the block (the stimuli
still to come, the answer of the OTP backend, the outputs of a reaction). Its faults, its refusals, and the state right after reset. -/

namespace Sys2Proof.Machine

/-- Reasons a step stops with a fault: the invariant violations of R249 (93 U6), "a fault of the run, never a value". No state that the rules reach raises
one (statement `StepsFromInvariantStatesNeverFault`). -/
inductive Fault where
  /-- `request_hash` while a request is outstanding (R102). Raised by `requestHash`. Safe: the machine stops. -/
  | secondHashRequest
  /-- An awaited `OTP_ACK` while `fsm` is none of CNT_PROG, TRANS_PROG, ESCALATE (R146). Raised by `otpAck`. Safe: the machine stops. -/
  | ackOutOfPlace
  /-- CNT_PROG with no real `lc_state`, whose table entry R145 asks for (log entry 10). Raised by `cntProg`. Safe: the machine stops. -/
  | noRealLcState
  /-- A count rule with `lc_cnt == CNT_INVALID`, which "never meets arithmetic" (R159; log entry 10). Raised by `cntIncr`, `cntProg`, `transProg`. Safe: the machine stops. -/
  | noValidCount
  /-- TRANS_PROG with a target that is no real state (R151, R152; log entry 10). Raised by `transProg`, `ackTransProg`. Safe: the machine stops. -/
  | noRealTarget
  deriving DecidableEq, Repr

/-- Reasons a step gives a stimulus no meaning. -/
inductive Refusal where
  /-- An instruction without a meaning yet. Raised by `exec`'s refused arms only; there is none. Safe. -/
  | notModelled (mnemonic : String)
  /-- A bus access that is not 32 bits wide (R44, 93 U2). Raised by `step`. Safe: nothing can be proved of such an access. -/
  | notWordWide
  /-- A bus access at a misaligned offset (R44, 93 U2). Raised by `step`. Safe: nothing can be proved of such an access. -/
  | misaligned
  /-- An event code that is no event (R62, 93 U15). Raised by `step`. Safe: it is no stimulus. -/
  | notAnEvent
  /-- A `HASH_RSP` whose `done` contradicts the adapter's state (R108, 93 U5). Raised by `hashRsp`. Safe: "errs toward unprovable" (log entry 13). -/
  | hashDoneMismatch
  deriving DecidableEq, Repr

/-- The refusal of a presentation that the decoder finds to be no stimulus. -/
def refusalOf : DecodeError → Refusal
  | .notWordWide => .notWordWide
  | .misaligned => .misaligned
  | .notAnEvent => .notAnEvent

/-- One exclusive slot (R14): the pending target and the four token words of one requester. -/
structure Slot where
  target : Word
  token0 : Word
  token1 : Word
  token2 : Word
  token3 : Word
  deriving DecidableEq, Repr

/-- `ctrl`, the transition-control register (R16). -/
structure Ctrl where
  extClockEn        : Bool
  volatileRawUnlock : Bool
  deriving DecidableEq, Repr

/-- The eight stored, sticky status bits (R18). -/
structure Status where
  initialized          : Bool
  extClockSwitched     : Bool
  transitionSuccessful : Bool
  transitionCountError : Bool
  transitionError      : Bool
  tokenError           : Bool
  otpError             : Bool
  stateError           : Bool
  deriving DecidableEq, Repr

/-- The Token Store (R20, R90): five entries; kind INVALID has none. -/
structure TokenStore where
  zero       : TokenEntry
  rawUnlock  : TokenEntry
  testUnlock : TokenEntry
  testExit   : TokenEntry
  rma        : TokenEntry
  deriving DecidableEq, Repr

/-- A request to an external collaborator (R8 `emit`). -/
inductive Request where
  /-- `otp.program_req(state_enc, cnt_enc)` (R48). -/
  | programReq (stateEnc cntEnc : EncString)
  /-- `hash.request(app_id, chunk, is_last)`, the chunk's first byte first (R104, R71). -/
  | hashRequest (appId : Nat) (chunk : List Byte) (isLast : Bool)
  deriving DecidableEq, Repr

/-- A diagnostic line: no architectural state (R246); kept so that a guest error can be told from a defined no-op (log entry 4). -/
inductive Diag where
  | guestError      -- R246
  | unsetTokenKind  -- R98
  deriving DecidableEq, Repr

/-- One input of the block: a stimulus, and the answer `accepted` that `program_req` gets if the stimulus's reaction emits one (R48, R63). -/
structure Input where
  stim     : Stimulus
  accepted : Bool
  deriving DecidableEq, Repr

/-- The state. The first part is R10's tuple; the second part is the model's own. -/
structure State where
  /-- R11 -/
  fsm         : FsmState
  /-- R12 -/
  lcState     : LcStateVal
  /-- R13 -/
  lcCnt       : LcCntVal
  /-- R14 -/
  slotSw      : Slot
  /-- R14 -/
  slotDbg     : Slot
  /-- R15; `none` is NONE -/
  owner       : Option Requester
  /-- R16 -/
  ctrl        : Ctrl
  /-- R17 -/
  claimRegwen : Bool
  /-- R18 -/
  status      : Status
  /-- R19 -/
  idState     : IdState
  /-- R20 -/
  tokens      : TokenStore
  /-- R21 -/
  hashState   : HashState
  /-- R21 -/
  hashReq     : Requester
  /-- R22 -/
  digest      : Token
  /-- R23 -/
  otpPending  : Bool
  /-- R24 -/
  xactReq     : Requester
  /-- R25 -/
  volUnlock   : Bool
  /-- R26; bit i is check i -/
  initErr     : BitVec 6
  /-- R27 -/
  clkBypReq   : Bool
  /-- The model's own: the inputs still to be taken, next first (R50, R51; log entry 1). -/
  inputs      : List Input
  /-- The model's own: the answer a `program_req` gets in the reaction under way (R48; log entry 2). -/
  otpAccept   : Bool
  /-- The model's own: the value the reaction's read returned (R42, R262; log entry 3). -/
  rdata       : Option Word
  /-- The model's own: the requests the reaction emitted, in order (R8, R262; log entry 3). -/
  emitted     : List Request
  /-- The model's own: the diagnostics of the reaction, in order (R246, R98; log entry 4). -/
  diag        : List Diag
  /-- The model's own: how many unspecified values have been drawn (93 U1; log entry 8). -/
  freeCtr     : Nat
  deriving DecidableEq, Repr

/-- A slot of zeros (R32). -/
def Slot.zero : Slot := ⟨0, 0, 0, 0, 0⟩

/-- `status` with all eight bits 0 (R32). -/
def Status.zero : Status := ⟨false, false, false, false, false, false, false, false⟩

/-- A Token Store entry that the spec gives no value at reset but `tok_valid == 0` (R20, R270): its hashed value is the model's (log entry 7). -/
def TokenEntry.unset : TokenEntry := ⟨0, false⟩

/-- Entry ZERO, fixed at construction (R91). -/
def TokenEntry.ofZero (c : Config) : TokenEntry := ⟨c.lcHash 0, true⟩

/-- Entry RAW_UNLOCK, fixed at construction (R92). -/
def TokenEntry.ofRawUnlock (c : Config) : TokenEntry :=
  match c.rawUnlockToken with
  | some t => ⟨c.lcHash t, true⟩
  | none => TokenEntry.unset

/-- The machine right after reset (R32, R270). The elements to which the spec gives "no value" hold the values of log entries 6 and 7. -/
def State.reset : State where
  fsm := .reset
  lcState := .real .raw
  lcCnt := .count 0
  slotSw := Slot.zero
  slotDbg := Slot.zero
  owner := none
  ctrl := ⟨false, false⟩
  claimRegwen := true
  status := Status.zero
  idState := .blank
  tokens :=
    { zero := TokenEntry.ofZero device
      rawUnlock := TokenEntry.ofRawUnlock device
      testUnlock := TokenEntry.unset
      testExit := TokenEntry.unset
      rma := TokenEntry.unset }
  hashState := .hIdle
  hashReq := .sw
  digest := 0
  otpPending := false
  xactReq := .sw
  volUnlock := false
  initErr := 0
  clkBypReq := false
  inputs := []
  otpAccept := false
  rdata := none
  emitted := []
  diag := []
  freeCtr := 0

end Sys2Proof.Machine
end

