-- ==== Sys2Proof/Machine/Operands.lean ====
section
/-! DEFINITION. Operand forms: the slots and what is read from them, the register encodings of values, and the derived views of R30. -/

namespace Sys2Proof.Machine

/-- `slot[req]` (R14). -/
def State.slot (s : State) : Requester → Slot
  | .sw => s.slotSw
  | .dbg => s.slotDbg

/-- `slot[req] <- v`: never the other requester's slot (R14, R193). -/
def State.setSlot (s : State) (req : Requester) (v : Slot) : State :=
  match req with
  | .sw => { s with slotSw := v }
  | .dbg => { s with slotDbg := v }

/-- `slot[req].token[i]` (R14). -/
def Slot.token (v : Slot) (i : Fin 4) : Word :=
  match i with
  | 0 => v.token0
  | 1 => v.token1
  | 2 => v.token2
  | 3 => v.token3

/-- `slot[req].token[i] <- w` (R193). -/
def Slot.setToken (v : Slot) (i : Fin 4) (w : Word) : Slot :=
  match i with
  | 0 => { v with token0 := w }
  | 1 => { v with token1 := w }
  | 2 => { v with token2 := w }
  | 3 => { v with token3 := w }

/-- The two halves of a 128-bit value (R71): half 0 is bits 63:0, half 1 bits 127:64. -/
def half (t : Token) (i : Fin 2) : HalfToken := t.extractLsb' (64 * i.val) 64

/-- `{half 1, half 0}` (R71). -/
def joinHalves (h1 h0 : HalfToken) : Token := h1 ++ h0

/-- `Token(req)` of R71: token word 0 least significant. -/
def Slot.assembled (v : Slot) : Token := v.token3 ++ v.token2 ++ v.token1 ++ v.token0

/-- `Half(req, i)` of R71. -/
def Slot.half (v : Slot) (i : Fin 2) : HalfToken := Sys2Proof.Machine.half v.assembled i

/-- `Chunk(h)` of R71: 8 bytes, byte `j` is bits `8j+7 : 8j`; byte 0 is sent first. -/
def chunk (h : HalfToken) : List Byte := (List.range 8).map (fun j => h.extractLsb' (8 * j) 8)

/-- The 5-bit index repeated six times in bits 29:0, zero-extended to 32 bits (R67). -/
def repIdx (i : BitVec 5) : Word := (i ++ i ++ i ++ i ++ i ++ i).zeroExtend 32

/-- `EncIdx(S)` of a real state (R67). -/
def encIdx (l : LcState) : Word := repIdx (BitVec.ofNat 5 l.idx)

/-- The real state with a given index (R66). -/
def lcStateOfIdx (i : Nat) : Option LcState := LcState.all[i]?

/-- `DecodeTarget(v)` of R67; `none` is TGT_INVALID. Bits 31:30 are not looked at. -/
def decodeTarget (v : Word) : Option LcState :=
  let g0 : BitVec 5 := v.extractLsb' 0 5
  if v.extractLsb' 5 5 = g0 ∧ v.extractLsb' 10 5 = g0 ∧ v.extractLsb' 15 5 = g0 ∧ v.extractLsb' 20 5 = g0
      ∧ v.extractLsb' 25 5 = g0 then
    lcStateOfIdx g0.toNat
  else none

/-- `Tgt()` of R143: the target in the slot of the requester whose transition is in flight. -/
def State.tgt (s : State) : Option LcState := decodeTarget (s.slot s.xactReq).target

/-- `TransRegwen(req)` of R30: `owner == req` and `fsm == IDLE`. -/
def State.transRegwen (s : State) (req : Requester) : Bool := (s.owner == some req) && (s.fsm == .idle)

/-- `MUBI8_TRUE` and `MUBI8_FALSE` (R70). -/
def mubi8True : BitVec 8 := 0x96#8
def mubi8False : BitVec 8 := 0x69#8

/-- `zext_32` of one bit. -/
def bit32 (b : Bool) : Word := (BitVec.ofBool b).zeroExtend 32

/-- What `LcStateView()` of R30 yields: a real state, one of the three synthetic read-out values of R66, or no value. -/
inductive LcView where
  | real (l : LcState)
  | postTransition
  | escalate
  | invalid
  | unspecified
  deriving DecidableEq, Repr

/-- `LcStateView()` (R30), its cases in the written order. -/
def State.lcStateView (s : State) : LcView :=
  match s.fsm with
  | .postTrans => .postTransition
  | .escalate => .escalate
  | .invalid => .invalid
  | .scrap => .real .scrap
  | .reset => .unspecified
  | .idle | .clkMux | .cntIncr | .cntProg | .transCheck | .tokenHash | .tokenCheck | .transProg =>
    match s.lcState with
    | .lcsInvalid => .invalid
    | .real l => .real l

/-- `EncIdx(LcStateView())` (R66, R202); `none` where the view has no value. -/
def encView : LcView → Option Word
  | .real l => some (encIdx l)
  | .postTransition => some (repIdx 21#5)
  | .escalate => some (repIdx 22#5)
  | .invalid => some (repIdx 23#5)
  | .unspecified => none

/-- Whether `lc_cnt` and `id_state` hold a value: they hold none from RESET to the INIT that loads them (R32, R287), and `status.initialized` is 1 from
that INIT on (R18). After an ESCALATE that comes before INIT, `fsm` is no longer RESET and they still hold none (U1 "a read that needs one draws it"; DEDUCED,
log entry 9). -/
def State.loaded (s : State) : Bool := (s.fsm != .reset) && s.status.initialized

/-- `zext_32(CntView())` (R30, R68, R203); `none` where the view has no value. -/
def State.cntView (s : State) : Option Word :=
  if s.loaded then
    match s.lcCnt with
    | .cntInvalid => some 31#32
    | .count n => some (BitVec.ofNat 32 n.val)
  else none

/-- `IdCode` (R69). -/
def idCode : IdState → Word
  | .blank => 0x00000000#32
  | .personalized => 0x55555555#32
  | .idInvalid => 0xAAAAAAAA#32

/-- `IdCode(IdView())` (R30, R69, R204); `none` where the view has no value. -/
def State.idView (s : State) : Option Word :=
  if s.loaded then some (idCode s.idState) else none

end Sys2Proof.Machine
end

