-- ==== Sys2Proof/Machine/Flags.lean ====
section
/-! DEFINITION. The sticky status bits (R18), their codes (R64, R248) and the value a read of STATUS returns (R65). -/

namespace Sys2Proof.Machine

/-- The four operational errors (R248). -/
inductive OpErr where
  | transitionCount   -- "OTP transition-count exhausted", STATUS bit 4
  | transition        -- "invalid transition request", STATUS bit 5
  | token             -- "token mismatch", STATUS bit 6
  | otp               -- "OTP program rejection", STATUS bit 8
  deriving DecidableEq, Repr

/-- `status.bit <- 1` for an operational error (R247, R248). -/
def Status.withError (st : Status) : OpErr → Status
  | .transitionCount => { st with transitionCountError := true }
  | .transition => { st with transitionError := true }
  | .token => { st with tokenError := true }
  | .otp => { st with otpError := true }

/-- `Ready()` (R30): the view `fsm == IDLE`. -/
def State.ready (s : State) : Bool := s.fsm == .idle

/-- The value of STATUS (R65), bit 9 first. -/
def State.statusValue (s : State) : Word :=
  (BitVec.ofBool s.status.stateError
    ++ BitVec.ofBool s.status.otpError
    ++ 0#1
    ++ BitVec.ofBool s.status.tokenError
    ++ BitVec.ofBool s.status.transitionError
    ++ BitVec.ofBool s.status.transitionCountError
    ++ BitVec.ofBool s.status.transitionSuccessful
    ++ BitVec.ofBool s.status.extClockSwitched
    ++ BitVec.ofBool s.ready
    ++ BitVec.ofBool s.status.initialized : BitVec 10).zeroExtend 32

end Sys2Proof.Machine
end

