-- ==== Sys2Proof/Machine/Ops.lean ====
section
/-! DEFINITION. The shared operations of the reactions: the outputs (read value, emitted request, diagnostic), the guest error, TAKING AN OPERATIONAL
ERROR and the RETURN from it (the block's trap entry and return, R255, R256), the mutex (R137, R138), and the OTP program request (R48). -/

namespace Sys2Proof.Machine

/-- One reaction's outcome. -/
abbrev Result := Host.Outcome State Fault Refusal

/-- The read returns `v` (R42). -/
def State.reply (s : State) (v : Word) : State := { s with rdata := some v }

/-- `emit X(args)` (R8). -/
def State.emit (s : State) (r : Request) : State := { s with emitted := s.emitted ++ [r] }

/-- A diagnostic line (R246). -/
def State.note (s : State) (d : Diag) : State := { s with diag := s.diag ++ [d] }

/-- An unspecified value has been drawn: the next one is another (93 U1, log entry 8). -/
def State.drawn (s : State) : State := { s with freeCtr := s.freeCtr + 1 }

/-- `raise GuestError` on a write (R246): no state element changes; a diagnostic is logged. -/
def guestError (s : State) : State := s.note .guestError

/-- A read that is a guest error: it returns 0 (R46, R246). -/
def guestErrorRead (s : State) : State := (guestError s).reply 0#32

/-- TAKING AN OPERATIONAL ERROR, `raise OpError(bit)` (R247): the status bit is set, `fsm` goes to POST_TRANS, nothing else is written. -/
def raiseOp (e : OpErr) (s : State) : State :=
  { s with status := s.status.withError e, fsm := .postTrans }

/-- THE RETURN FROM IT, re-arming (R139, R256): POST_TRANS goes to IDLE; from every other FSM state nothing changes. It happens exactly at a claim that takes
the mutex from NONE. -/
def rearm (s : State) : State :=
  match s.fsm with
  | .postTrans => { s with fsm := .idle }
  | .reset | .idle | .clkMux | .cntIncr | .cntProg | .transCheck | .tokenHash | .tokenCheck | .transProg
  | .scrap | .escalate | .invalid => s

/-- `claim(req)` (R137): its Boolean and the state. -/
def claim (req : Requester) (s : State) : Bool × State :=
  match s.owner with
  | none => (true, rearm { s with owner := some req })
  | some r => (r == req, s)

/-- `release(req)` (R138). -/
def release (req : Requester) (s : State) : State :=
  if s.owner = some req then { s with owner := none } else s

/-- A `program_req` and its answer (R48, R145, R151): the request is emitted; if the backend accepts it, `otp_pending` is set and the reaction ends; if it
answers busy, an OTP error is raised. -/
def programReq (stateEnc cntEnc : EncString) (s : State) : State :=
  let s := s.emit (.programReq stateEnc cntEnc)
  if s.otpAccept then { s with otpPending := true } else raiseOp .otp s

end Sys2Proof.Machine
end

