-- ==== Sys2Proof/Machine/TokenStore.lean ====
section
/-! DEFINITION. The Token Store and the Transition Matrix (40_token_store.md): `required_token_for` and `match_token`, pure functions. -/

namespace Sys2Proof.Machine

/-- The entry of a kind; INVALID has none (R90). -/
def TokenStore.entry (ts : TokenStore) : TokenKind → Option TokenEntry
  | .invalid => none
  | .zero => some ts.zero
  | .rawUnlock => some ts.rawUnlock
  | .testUnlock => some ts.testUnlock
  | .testExit => some ts.testExit
  | .rma => some ts.rma

/-- `required_token_for(from_state, to_state)` (R94); `none` is TGT_INVALID. -/
def requiredTokenFor (matrix : LcState → LcState → TokenKind) (f : LcStateVal) (t : Option LcState) : TokenKind :=
  match f with
  | .lcsInvalid => .invalid
  | .real lf =>
    match t with
    | none => .invalid
    | some lt => matrix lf lt

/-- Whether a kind has an entry with its validity bit set. -/
def TokenStore.usable (ts : TokenStore) (k : TokenKind) : Bool :=
  match ts.entry k with
  | none => false
  | some e => e.valid

/-- `match_token(presented_digest, token_kind)` (R97): the validity bit is set AND both halves are equal. -/
def matchToken (ts : TokenStore) (d : Token) (k : TokenKind) : Bool :=
  match ts.entry k with
  | none => false
  | some e => e.valid && (half d 0 == half e.hashed 0) && (half d 1 == half e.hashed 1)

/-- The diagnostic of R98: a comparison against an unset or invalid kind is logged. No state element changes. -/
def noteUnset (k : TokenKind) (s : State) : State :=
  if s.tokens.usable k then s else s.note .unsetTokenKind

end Sys2Proof.Machine
end

