-- ==== Sys2Proof/Machine/HashAdapter.lean ====
section
/-! DEFINITION. The Hash Request Adapter (41_hash_adapter.md): the two requests of one token and the recombination of the shares. -/

namespace Sys2Proof.Machine

/-- `request_hash(req)` (R101, R102): the first half of the requester's token, not final. -/
def requestHash (c : Config) (req : Requester) (s : State) : Result :=
  match s.hashState with
  | .hIdle =>
    .next { s.emit (.hashRequest c.kmacAppId (chunk ((s.slot req).half 0)) false) with
      hashReq := req, hashState := .hFirstSent }
  | .hFirstSent => .fault .secondHashRequest
  | .hSecondSent => .fault .secondHashRequest

/-- The second half of the token, final (R106). The shares of the intermediate response are ignored (R78). -/
def requestSecondHalf (c : Config) (s : State) : State :=
  { s.emit (.hashRequest c.kmacAppId (chunk ((s.slot s.hashReq).half 1)) true) with hashState := .hSecondSent }

/-- The digest of the final response (R107): each half is the exclusive-or of its two shares. -/
def recombine (share0 share1 : Token) : Token :=
  joinHalves (half share0 1 ^^^ half share1 1) (half share0 0 ^^^ half share1 0)

/-- The digest is stored and the adapter is idle again (R107). -/
def storeDigest (share0 share1 : Token) (s : State) : State :=
  { s with digest := recombine share0 share1, hashState := .hIdle }

end Sys2Proof.Machine
end

