-- ==== Sys2Proof/Machine/Loader.lean ====
section
/-! DEFINITION. The OTP Info Loader (42_otp_loader.md): decoding of the encoded state and count, the six validity checks, and the classification. -/

namespace Sys2Proof.Machine

/-- `DecodeState(se)` (R118): the state whose table entry equals the whole string, or LCS_INVALID. -/
def decodeState (c : Config) (se : EncString) : LcStateVal :=
  match LcState.all.find? (fun l => se == c.lcStateTable l) with
  | some l => .real l
  | none => .lcsInvalid

/-- `DecodeCnt(ce)` (R119). -/
def decodeCnt (c : Config) (ce : EncString) : LcCntVal :=
  match (List.finRange 25).find? (fun k => ce == c.lcCntTable k) with
  | some k => .count k
  | none => .cntInvalid

/-- `IdState(secret_valid)` (R120). -/
def idStateOf : SecretValid → IdState
  | .secretTrue => .personalized
  | .secretFalse => .blank
  | .secretCorrupt => .idInvalid

/-- Check 0, "state invalid" (R122). -/
def check0 (st : LcStateVal) (info : OtpInfo) : Bool := (st == .lcsInvalid) || !info.lcValid

/-- Check 1, "vendor-test-unknown" (R123). -/
def check1 (c : Config) (info : OtpInfo) : Bool := c.vendorTestUnknown info

/-- Check 2, "count exceeded" (R124). -/
def check2 (cnt : LcCntVal) : Bool := cnt == .cntInvalid

/-- Check 3, "corrupted secret-valid flag" (R125). -/
def check3 (info : OtpInfo) : Bool := info.secretValid == .secretCorrupt

/-- Check 4, "non-RAW-state-with-zero-count" (R126). -/
def check4 (st : LcStateVal) (cnt : LcCntVal) : Bool :=
  match st with
  | .lcsInvalid => false
  | .real l => (l != .raw) && (cnt == .count 0)

/-- Check 5, "personalized-without-expected-secrets" (R127). -/
def check5 (c : Config) (ids : IdState) (st : LcStateVal) (info : OtpInfo) : Bool :=
  c.personalizedWithoutSecrets ids st (info.testUnlock.valid, info.testExit.valid, info.rma.valid)

/-- What `load_initial_state` returns (R131); the token part is `info`'s own (R128). -/
structure LoadResult where
  st  : LcStateVal
  cnt : LcCntVal
  ids : IdState
  err : BitVec 6
  deriving DecidableEq, Repr

/-- `load_initial_state(info, force_raw)` (R131, R117, R121): a pure function; check i is bit i of the error bitmap. -/
def loadInitialState (c : Config) (info : OtpInfo) (forceRaw : Bool) : LoadResult :=
  let se := if forceRaw then c.lcStateTable .raw else info.stateEnc
  let st := decodeState c se
  let cnt := decodeCnt c info.cntEnc
  let ids := idStateOf info.secretValid
  { st := st
    cnt := cnt
    ids := ids
    err := BitVec.ofBool (check5 c ids st info) ++ BitVec.ofBool (check4 st cnt) ++ BitVec.ofBool (check3 info)
      ++ BitVec.ofBool (check2 cnt) ++ BitVec.ofBool (check1 c info) ++ BitVec.ofBool (check0 st info) }

/-- Where the FSM goes after the checks (R129). -/
def classify (r : LoadResult) : FsmState :=
  if r.err ≠ 0#6 then .invalid else if r.st = .real .scrap then .scrap else .idle

/-- The reaction of INIT (R115, R128, R129, R130). -/
def initReaction (c : Config) (info : OtpInfo) (forceRaw : Bool) (s : State) : State :=
  match s.fsm with
  | .reset =>
    let r := loadInitialState c info forceRaw
    { s with
      lcState := r.st
      lcCnt := r.cnt
      idState := r.ids
      initErr := r.err
      tokens := { s.tokens with testUnlock := info.testUnlock, testExit := info.testExit, rma := info.rma }
      status := { s.status with initialized := true, stateError := s.status.stateError || (r.err != 0#6) }
      fsm := classify r }
  | .idle | .clkMux | .cntIncr | .cntProg | .transCheck | .tokenHash | .tokenCheck | .transProg
  | .postTrans | .scrap | .escalate | .invalid => s

end Sys2Proof.Machine
end

