-- ==== Sys2Proof/Machine/LifeCycle.lean ====
section
/-! DEFINITION. The Life-Cycle FSM (43_lc_fsm.md): starting a transition, the persistent path, the completions, escalation. Each entry action is one definition;
a transient state is entered and left inside the reaction (R136). -/

namespace Sys2Proof.Machine

/-- The target families for which CLK_MUX asks for the external clock (R142); TGT_INVALID belongs to none. -/
def clockFamily : Option LcState → Bool
  | none => false
  | some .raw => true
  | some .testUnlocked0 | some .testUnlocked1 | some .testUnlocked2 | some .testUnlocked3
  | some .testUnlocked4 | some .testUnlocked5 | some .testUnlocked6 | some .testUnlocked7 => true
  | some .testLocked0 | some .testLocked1 | some .testLocked2 | some .testLocked3
  | some .testLocked4 | some .testLocked5 | some .testLocked6 => true
  | some .rma => true
  | some .dev | some .prod | some .prodEnd | some .scrap => false

/-- `VolatileCond(tgt)` (R141). -/
def volatileCond (tgt : Option LcState) (s : State) : Bool :=
  s.ctrl.volatileRawUnlock && s.tokens.rawUnlock.valid && (s.lcState == .real .raw) && (tgt == some .testUnlocked0)

/-- `VolatileUnlock(req, tgt)` (R141): the slot's token itself is compared with the stored hashed RAW_UNLOCK value. -/
def volatileUnlock (req : Requester) (s : State) : State :=
  if matchToken s.tokens (s.slot req).assembled .rawUnlock then
    { s with
      lcState := .real .testUnlocked0
      volUnlock := true
      status := { s.status with transitionSuccessful := true } }
  else raiseOp .token (noteUnset .rawUnlock s)

/-- CNT_PROG, entry (R145): the pair (current state, new count). -/
def cntProg (c : Config) (s : State) : Result :=
  match s.lcState with
  | .lcsInvalid => .fault .noRealLcState
  | .real l =>
    match s.lcCnt with
    | .cntInvalid => .fault .noValidCount
    | .count n => .next (programReq (c.lcStateTable l) (c.lcCntTable n) s)

/-- The new count (R144, R159): saturated for a SCRAP target, one more otherwise. -/
def nextCount (tgt : Option LcState) (n : Fin 25) : Fin 25 :=
  if tgt = some .scrap then 24 else n + 1

/-- CNT_INCR (R144). -/
def cntIncr (c : Config) (tgt : Option LcState) (s : State) : Result :=
  match s.lcCnt with
  | .cntInvalid => .fault .noValidCount
  | .count n =>
    if Config.cntMax ≤ n.val then .next (raiseOp .transitionCount s)
    else cntProg c { s with lcCnt := .count (nextCount tgt n), fsm := .cntProg }

/-- The external clock request of CLK_MUX (R142). -/
def requestClock (tgt : Option LcState) (s : State) : State :=
  if s.ctrl.extClockEn && clockFamily tgt then
    { s with clkBypReq := true, status := { s.status with extClockSwitched := true } }
  else s

/-- CLK_MUX (R142). -/
def clkMux (c : Config) (tgt : Option LcState) (s : State) : Result :=
  cntIncr c tgt { requestClock tgt s with fsm := .cntIncr }

/-- `start(req)` (R140). -/
def start (c : Config) (req : Requester) (s : State) : Result :=
  if s.transRegwen req then
    let s := { s with xactReq := req }
    let tgt := s.tgt
    if volatileCond tgt s then .next (volatileUnlock req s)
    else clkMux c tgt { s with fsm := .clkMux }
  else .next (guestError s)

/-- TRANS_CHECK (R148, R149). -/
def transCheck (c : Config) (s : State) : Result :=
  if requiredTokenFor c.transMatrix s.lcState s.tgt = .invalid then .next (raiseOp .transition s)
  else requestHash c s.xactReq { s with fsm := .tokenHash }

/-- TRANS_PROG, entry (R151): the pair (target, count already programmed). -/
def transProg (c : Config) (s : State) : Result :=
  match s.tgt with
  | none => .fault .noRealTarget
  | some t =>
    match s.lcCnt with
    | .cntInvalid => .fault .noValidCount
    | .count n => .next (programReq (c.lcStateTable t) (c.lcCntTable n) s)

/-- `ResumeFromHash()`, TOKEN_CHECK (R150). -/
def resumeFromHash (c : Config) (s : State) : Result :=
  let s := { s with fsm := .tokenCheck }
  let k := requiredTokenFor c.transMatrix s.lcState s.tgt
  if k = .invalid then .next (raiseOp .transition s)
  else if matchToken s.tokens s.digest k then transProg c { s with fsm := .transProg }
  else .next (raiseOp .token (noteUnset k s))

/-- `AckCntProg(ok)` (R147). -/
def ackCntProg (c : Config) (ok : Bool) (s : State) : Result :=
  if ok then transCheck c { s with fsm := .transCheck } else .next (raiseOp .otp s)

/-- Where the FSM goes when target `t` is committed (R152, R155). -/
def committedFsm (t : LcState) : FsmState := if t = .scrap then .escalate else .postTrans

/-- `AckTransProg(ok)` (R152). -/
def ackTransProg (ok : Bool) (s : State) : Result :=
  if ok then
    match s.tgt with
    | none => .fault .noRealTarget
    | some t =>
      .next { s with
        lcState := .real t
        status := { s.status with transitionSuccessful := true }
        fsm := committedFsm t }
  else .next (raiseOp .otp s)

/-- The reaction of `OTP_ACK(ok)` (R146, R158). -/
def otpAck (c : Config) (ok : Bool) (s : State) : Result :=
  if s.otpPending then
    let s := { s with otpPending := false }
    match s.fsm with
    | .cntProg => ackCntProg c ok s
    | .transProg => ackTransProg ok s
    | .escalate => .next s
    | .reset | .idle | .clkMux | .cntIncr | .transCheck | .tokenHash | .tokenCheck | .postTrans | .scrap | .invalid =>
      .fault .ackOutOfPlace
  else .next s

/-- The reaction of `HASH_RSP(share0, share1, done)` (R105 to R108, R111). -/
def hashRsp (c : Config) (share0 share1 : Token) (done : Bool) (s : State) : Result :=
  match s.hashState with
  | .hIdle => .next s
  | .hFirstSent => if done then .refused .hashDoneMismatch else .next (requestSecondHalf c s)
  | .hSecondSent =>
    if done then
      let s := storeDigest share0 share1 s
      if s.fsm = .tokenHash then resumeFromHash c s else .next s
    else .refused .hashDoneMismatch

/-- The reaction of `ESCALATE` (R154): only `fsm` is written. -/
def escalate (s : State) : State := { s with fsm := .escalate }

/-- The reaction of `RESET` (R270): every line of its pseudocode. Entries ZERO and RAW_UNLOCK of the Token Store survive (R32). The elements that get "no value"
take the values they have in `State.reset` (log entries 6 and 7). What is not the block's (the inputs, the outputs) is not reset. -/
def resetReaction (s : State) : State :=
  { s with
    fsm := .reset
    owner := none
    slotSw := Slot.zero
    slotDbg := Slot.zero
    ctrl := ⟨false, false⟩
    claimRegwen := true
    status := Status.zero
    hashState := .hIdle
    otpPending := false
    volUnlock := false
    initErr := 0
    clkBypReq := false
    tokens := { s.tokens with testUnlock := TokenEntry.unset, testExit := TokenEntry.unset, rma := TokenEntry.unset }
    lcState := State.reset.lcState
    lcCnt := State.reset.lcCnt
    idState := State.reset.idState
    digest := State.reset.digest
    hashReq := State.reset.hashReq
    xactReq := State.reset.xactReq }

end Sys2Proof.Machine
end

