-- ==== Sys2Proof/Machine/Broadcast.lean ====
section
/-! DEFINITION. The output lines (45_broadcast.md): thirteen levels that are a function of the state, not stored (R28, R231), and `clk_byp_req`, which is a state
element (R234). -/

namespace Sys2Proof.Machine

/-- The thirteen lines in bit order (R230). -/
inductive Line where
  | rawTestRma | dftEn | nvmDebugEn | hwDebugEn | cpuEn | keymgrEn | escalateEn | checkBypEn
  | creatorSeedSwRwEn | ownerSeedSwRwEn | isoPartSwRdEn | isoPartSwWrEn | seedHwRdEn
  deriving DecidableEq, Repr

/-- The bit of a line in the bitmap (R230). -/
def Line.bit : Line → Nat
  | .rawTestRma => 0 | .dftEn => 1 | .nvmDebugEn => 2 | .hwDebugEn => 3 | .cpuEn => 4 | .keymgrEn => 5
  | .escalateEn => 6 | .checkBypEn => 7 | .creatorSeedSwRwEn => 8 | .ownerSeedSwRwEn => 9
  | .isoPartSwRdEn => 10 | .isoPartSwWrEn => 11 | .seedHwRdEn => 12

/-- `bcast = BroadcastTable(fsm, lc_state, id_state)` (R231). -/
def broadcast (c : Config) (s : State) : BitVec 13 := c.broadcastTable s.fsm s.lcState s.idState

/-- The thirteen lines of the device as the reaction left them (R28, R231, R233). -/
def State.lines (s : State) : BitVec 13 := broadcast device s

/-- The level of one line. -/
def State.line (s : State) (l : Line) : Bool := s.lines.getLsbD l.bit

end Sys2Proof.Machine
end

