-- ==== Sys2Proof/Machine/FrontEnd.lean ====
section
/-! DEFINITION. The Register/Mutex Front-End's shared operations (44_register_frontend.md): the gated writes, the three views that may have no value, and the two
dispatchers RegRead and RegWrite of R175 and R176. -/

namespace Sys2Proof.Machine

/-- `ClaimRegwenWrite(req, w)` (R183). -/
def claimRegwenWrite (req : Requester) (w : Word) (s : State) : State :=
  if w.getLsbD 0 then s
  else if s.transRegwen req then { s with claimRegwen := false }
  else guestError s

/-- `ClaimWrite(req, w)` (R185, R70): 0x96 in bits 7:0 claims, every other value releases; the claim's result is dropped. -/
def claimWrite (req : Requester) (w : Word) (s : State) : State :=
  if s.claimRegwen then
    if w.extractLsb' 0 8 = mubi8True then (claim req s).2 else release req s
  else guestError s

/-- The write of TRANSITION_CMD (R189). -/
def cmdWrite (c : Config) (req : Requester) (w : Word) (s : State) : Result :=
  if w.getLsbD 0 then start c req s else .next s

/-- `CtrlWrite(req, w)` (R191). -/
def ctrlWrite (req : Requester) (w : Word) (s : State) : State :=
  if s.transRegwen req then { s with ctrl := ⟨w.getLsbD 0, w.getLsbD 1⟩ } else guestError s

/-- `TokenWrite(req, i, w)` (R193). -/
def tokenWrite (req : Requester) (i : Fin 4) (w : Word) (s : State) : State :=
  if s.transRegwen req then s.setSlot req ((s.slot req).setToken i w) else guestError s

/-- `TargetWrite(req, w)` (R201): bits 31:30 are not stored. -/
def targetWrite (req : Requester) (w : Word) (s : State) : State :=
  if s.transRegwen req then
    s.setSlot req { s.slot req with target := (w.extractLsb' 0 30).zeroExtend 32 }
  else guestError s

/-- The value of CLAIM_TRANSITION_IF for a reader (R184). -/
def claimValue (req : Requester) (s : State) : Word :=
  (if s.owner = some req then mubi8True else mubi8False).zeroExtend 32

/-- The value of TRANSITION_CTRL (R190). -/
def ctrlValue (s : State) : Word :=
  (BitVec.ofBool s.ctrl.volatileRawUnlock ++ BitVec.ofBool s.ctrl.extClockEn : BitVec 2).zeroExtend 32

/-- The value of LC_STATE (R202); a free value in bits 29:0 while the view has none (R287, U1). -/
def lcStateValue (s : State) : Word :=
  match encView s.lcStateView with
  | some v => v
  | none => (Config.freeLcState s.freeCtr).zeroExtend 32

/-- The value of LC_TRANSITION_CNT (R203); a free value in bits 4:0 while the view has none. -/
def lcCntValue (s : State) : Word :=
  match s.cntView with
  | some v => v
  | none => (Config.freeLcCnt s.freeCtr).zeroExtend 32

/-- The value of LC_ID_STATE (R204); a free value while the view has none. -/
def lcIdValue (s : State) : Word :=
  match s.idView with
  | some v => v
  | none => Config.freeIdState s.freeCtr

/-- A read of a view: where the view has no value, the free value has been drawn and the next one is another (U1). -/
def replyView (view : Option Word) (v : Word) (s : State) : State :=
  match view with
  | some _ => s.reply v
  | none => s.drawn.reply v

/-- The value of HW_REVISION0 (R206). -/
def hwRevision0 (c : Config) : Word := c.siliconCreatorId ++ c.productId

/-- The value of HW_REVISION1 (R207). -/
def hwRevision1 (c : Config) : Word := c.revisionId.zeroExtend 32

/-- `RegRead(req, off)` (R175): the value a read returns, as one table. The meanings of the RD rows are definitions of their own. -/
def regRead (c : Config) (s : State) (req : Requester) (off : BitVec 8) : Word :=
  match off.toNat with
  | 0x00 => 0#32
  | 0x04 => s.statusValue
  | 0x08 => bit32 s.claimRegwen
  | 0x0C => if s.owner = some req then 0x96#32 else 0x69#32
  | 0x10 => bit32 (s.transRegwen req)
  | 0x14 => 0#32
  | 0x18 => ctrlValue s
  | 0x1C => (s.slot req).token 0
  | 0x20 => (s.slot req).token 1
  | 0x24 => (s.slot req).token 2
  | 0x28 => (s.slot req).token 3
  | 0x2C => (s.slot req).target
  | 0x38 => lcStateValue s
  | 0x3C => lcCntValue s
  | 0x40 => lcIdValue s
  | 0x44 => c.siliconCreatorId ++ c.productId
  | 0x48 => c.revisionId.zeroExtend 32
  | n =>
    if h : 0x4C ≤ n ∧ n ≤ 0x68 then c.deviceId ⟨(n - 0x4C) / 4, by omega⟩
    else if h : 0x6C ≤ n ∧ n ≤ 0x88 then c.manufState ⟨(n - 0x6C) / 4, by omega⟩
    else 0#32

/-- `RegWrite(req, off, wdata)` (R176), as one table. -/
def regWrite (c : Config) (s : State) (req : Requester) (off : BitVec 8) (w : Word) : Result :=
  match off.toNat with
  | 0x00 => .next s
  | 0x08 => .next (claimRegwenWrite req w s)
  | 0x0C => .next (claimWrite req w s)
  | 0x14 => if w.getLsbD 0 then start c req s else .next s
  | 0x18 => .next (ctrlWrite req w s)
  | 0x1C => .next (tokenWrite req 0 w s)
  | 0x20 => .next (tokenWrite req 1 w s)
  | 0x24 => .next (tokenWrite req 2 w s)
  | 0x28 => .next (tokenWrite req 3 w s)
  | 0x2C => .next (targetWrite req w s)
  | _ => .next (guestError s)

end Sys2Proof.Machine
end

