-- ==== Sys2Proof/Machine/Events.lean ====
section
/-! DEFINITION. The meanings of the five events (R62). -/

namespace Sys2Proof.Machine

/-- RESET (R270): accepted in every state. -/
def execReset (s : State) : Result := .next (resetReaction s)

/-- INIT (R115 to R131): in `fsm == RESET` the loader runs; otherwise nothing happens (R130). -/
def execInit (info : OtpInfo) (forceRaw : Bool) (s : State) : Result := .next (initReaction device info forceRaw s)

/-- OTP_ACK (R146, R147, R152, R158). -/
def execOtpAck (ok : Bool) (s : State) : Result := otpAck device ok s

/-- HASH_RSP (R105 to R108, R111). -/
def execHashRsp (share0 share1 : Token) (done : Bool) (s : State) : Result := hashRsp device share0 share1 done s

/-- ESCALATE (R154): from every state. -/
def execEscalate (s : State) : Result := .next (escalate s)

end Sys2Proof.Machine
end

