-- ==== Sys2Proof/Machine/Pseudo.lean ====
section
/-! DEFINITION. The meanings of the four pseudo-stimuli (R63): writes whose low bits their row fixes; the bits above, `hi`, are ignored. -/

namespace Sys2Proof.Machine

/-- CLAIM: WR CLAIM_TRANSITION_IF with 0x96 in bits 7:0; runs `claim(req)` under `claim_regwen` (R63, R185, R137). -/
def execClaim (req : Requester) (_hi : BitVec 24) (s : State) : Result :=
  .next (if s.claimRegwen then (claim req s).2 else guestError s)

/-- RELEASE: WR CLAIM_TRANSITION_IF with 0x69 in bits 7:0; runs `release(req)` under `claim_regwen` (R63, R185, R138). -/
def execRelease (req : Requester) (_hi : BitVec 24) (s : State) : Result :=
  .next (if s.claimRegwen then release req s else guestError s)

/-- START: WR TRANSITION_CMD with bit 0 set; runs `start(req)` (R63, R189, R140). -/
def execStart (req : Requester) (_hi : BitVec 31) (s : State) : Result := start device req s

/-- LOCK_CLAIM: WR CLAIM_TRANSITION_IF_REGWEN with bit 0 clear (R63, R183). -/
def execLockClaim (req : Requester) (_hi : BitVec 31) (s : State) : Result :=
  .next (if s.transRegwen req then { s with claimRegwen := false } else guestError s)

end Sys2Proof.Machine
end

