-- ==== Sys2Proof/Machine/RegReads.lean ====
section
/-! DEFINITION. The meanings of the reads (44_register_frontend.md, sections 2 to 6). No read changes a state element of R10 (R45); each is allowed in every FSM state
and needs no ownership (R175). -/

namespace Sys2Proof.Machine

/-- RD ALERT_TEST (R178): write-only, reads 0. -/
def execRdAlertTest (_req : Requester) (s : State) : Result := .next (s.reply 0#32)

/-- RD STATUS (R180): the sticky bits and READY. -/
def execRdStatus (_req : Requester) (s : State) : Result := .next (s.reply s.statusValue)

/-- RD CLAIM_TRANSITION_IF_REGWEN (R182): the claim write-enable. -/
def execRdClaimTransitionIfRegwen (_req : Requester) (s : State) : Result := .next (s.reply (bit32 s.claimRegwen))

/-- RD CLAIM_TRANSITION_IF (R184): 0x96 to the owner, 0x69 to anyone else. -/
def execRdClaimTransitionIf (req : Requester) (s : State) : Result := .next (s.reply (claimValue req s))

/-- RD TRANSITION_REGWEN (R186): computed, not stored. -/
def execRdTransitionRegwen (req : Requester) (s : State) : Result := .next (s.reply (bit32 (s.transRegwen req)))

/-- RD TRANSITION_CMD (R188): reads 0. -/
def execRdTransitionCmd (_req : Requester) (s : State) : Result := .next (s.reply 0#32)

/-- RD TRANSITION_CTRL (R190): shared by both requesters. -/
def execRdTransitionCtrl (_req : Requester) (s : State) : Result := .next (s.reply (ctrlValue s))

/-- RD TRANSITION_TOKEN_0 (R192): the reader's own slot. -/
def execRdTransitionToken0 (req : Requester) (s : State) : Result := .next (s.reply ((s.slot req).token 0))

/-- RD TRANSITION_TOKEN_1 (R194): the reader's own slot. -/
def execRdTransitionToken1 (req : Requester) (s : State) : Result := .next (s.reply ((s.slot req).token 1))

/-- RD TRANSITION_TOKEN_2 (R196): the reader's own slot. -/
def execRdTransitionToken2 (req : Requester) (s : State) : Result := .next (s.reply ((s.slot req).token 2))

/-- RD TRANSITION_TOKEN_3 (R198): the reader's own slot. -/
def execRdTransitionToken3 (req : Requester) (s : State) : Result := .next (s.reply ((s.slot req).token 3))

/-- RD TRANSITION_TARGET (R200): the reader's own slot. -/
def execRdTransitionTarget (req : Requester) (s : State) : Result := .next (s.reply (s.slot req).target)

/-- RD LC_STATE (R202): the encoded view, a free value in RESET. -/
def execRdLcState (_req : Requester) (s : State) : Result := .next (replyView (encView s.lcStateView) (lcStateValue s) s)

/-- RD LC_TRANSITION_CNT (R203): the count view, a free value before INIT. -/
def execRdLcTransitionCnt (_req : Requester) (s : State) : Result := .next (replyView s.cntView (lcCntValue s) s)

/-- RD LC_ID_STATE (R204): the coded view, a free value before INIT. -/
def execRdLcIdState (_req : Requester) (s : State) : Result := .next (replyView s.idView (lcIdValue s) s)

/-- RD HW_REVISION0 (R206): creator and product id. -/
def execRdHwRevision0 (_req : Requester) (s : State) : Result := .next (s.reply (hwRevision0 device))

/-- RD HW_REVISION1 (R207): revision id. -/
def execRdHwRevision1 (_req : Requester) (s : State) : Result := .next (s.reply (hwRevision1 device))

/-- RD DEVICE_ID_0 (R208): a configuration word. -/
def execRdDeviceId0 (_req : Requester) (s : State) : Result := .next (s.reply (device.deviceId 0))

/-- RD DEVICE_ID_1 (R208): a configuration word. -/
def execRdDeviceId1 (_req : Requester) (s : State) : Result := .next (s.reply (device.deviceId 1))

/-- RD DEVICE_ID_2 (R208): a configuration word. -/
def execRdDeviceId2 (_req : Requester) (s : State) : Result := .next (s.reply (device.deviceId 2))

/-- RD DEVICE_ID_3 (R208): a configuration word. -/
def execRdDeviceId3 (_req : Requester) (s : State) : Result := .next (s.reply (device.deviceId 3))

/-- RD DEVICE_ID_4 (R208): a configuration word. -/
def execRdDeviceId4 (_req : Requester) (s : State) : Result := .next (s.reply (device.deviceId 4))

/-- RD DEVICE_ID_5 (R208): a configuration word. -/
def execRdDeviceId5 (_req : Requester) (s : State) : Result := .next (s.reply (device.deviceId 5))

/-- RD DEVICE_ID_6 (R208): a configuration word. -/
def execRdDeviceId6 (_req : Requester) (s : State) : Result := .next (s.reply (device.deviceId 6))

/-- RD DEVICE_ID_7 (R208): a configuration word. -/
def execRdDeviceId7 (_req : Requester) (s : State) : Result := .next (s.reply (device.deviceId 7))

/-- RD MANUF_STATE_0 (R209): a configuration word. -/
def execRdManufState0 (_req : Requester) (s : State) : Result := .next (s.reply (device.manufState 0))

/-- RD MANUF_STATE_1 (R209): a configuration word. -/
def execRdManufState1 (_req : Requester) (s : State) : Result := .next (s.reply (device.manufState 1))

/-- RD MANUF_STATE_2 (R209): a configuration word. -/
def execRdManufState2 (_req : Requester) (s : State) : Result := .next (s.reply (device.manufState 2))

/-- RD MANUF_STATE_3 (R209): a configuration word. -/
def execRdManufState3 (_req : Requester) (s : State) : Result := .next (s.reply (device.manufState 3))

/-- RD MANUF_STATE_4 (R209): a configuration word. -/
def execRdManufState4 (_req : Requester) (s : State) : Result := .next (s.reply (device.manufState 4))

/-- RD MANUF_STATE_5 (R209): a configuration word. -/
def execRdManufState5 (_req : Requester) (s : State) : Result := .next (s.reply (device.manufState 5))

/-- RD MANUF_STATE_6 (R209): a configuration word. -/
def execRdManufState6 (_req : Requester) (s : State) : Result := .next (s.reply (device.manufState 6))

/-- RD MANUF_STATE_7 (R209): a configuration word. -/
def execRdManufState7 (_req : Requester) (s : State) : Result := .next (s.reply (device.manufState 7))

/-- RD at offset 0x30, which holds no register (R210): a guest error that returns 0. -/
def execRdUnmapped30 (_req : Requester) (s : State) : Result := .next (guestErrorRead s)

/-- RD at offset 0x34, which holds no register (R210): a guest error that returns 0. -/
def execRdUnmapped34 (_req : Requester) (s : State) : Result := .next (guestErrorRead s)

/-- RD at offset 0x8C, which holds no register (R211): a guest error that returns 0. -/
def execRdOutOfRange8C8C (_req : Requester) (s : State) : Result := .next (guestErrorRead s)

/-- RD at a word-aligned offset of 90 to 9C, beyond the window (R211): a guest error that returns 0. -/
def execRdOutOfRange909C (_req : Requester) (_off : BitVec 8) (s : State) : Result := .next (guestErrorRead s)

/-- RD at a word-aligned offset of A0 to BC, beyond the window (R211): a guest error that returns 0. -/
def execRdOutOfRangeA0Bc (_req : Requester) (_off : BitVec 8) (s : State) : Result := .next (guestErrorRead s)

/-- RD at a word-aligned offset of C0 to FC, beyond the window (R211): a guest error that returns 0. -/
def execRdOutOfRangeC0Fc (_req : Requester) (_off : BitVec 8) (s : State) : Result := .next (guestErrorRead s)

end Sys2Proof.Machine
end

