-- ==== Sys2Proof/Machine/RegWrites.lean ====
section
/-! DEFINITION. The meanings of the writes (44_register_frontend.md, sections 2 to 6), for every write data, requester, ownership and FSM state. A rejected write
changes no state element (R177 b). -/

namespace Sys2Proof.Machine

/-- WR ALERT_TEST (R179): inert: no state changes, and no error. -/
def execWrAlertTest (_req : Requester) (_w : Word) (s : State) : Result := .next s

/-- WR STATUS (R181): a read-only register; a guest error. -/
def execWrStatus (_req : Requester) (_w : Word) (s : State) : Result := .next (guestError s)

/-- WR CLAIM_TRANSITION_IF_REGWEN (R183): a written 0 by the owner in IDLE clears the bit. -/
def execWrClaimTransitionIfRegwen (req : Requester) (w : Word) (s : State) : Result := .next (claimRegwenWrite req w s)

/-- WR CLAIM_TRANSITION_IF (R185): claim or release. -/
def execWrClaimTransitionIf (req : Requester) (w : Word) (s : State) : Result := .next (claimWrite req w s)

/-- WR TRANSITION_REGWEN (R187): a read-only register; a guest error. -/
def execWrTransitionRegwen (_req : Requester) (_w : Word) (s : State) : Result := .next (guestError s)

/-- WR TRANSITION_CMD (R189): bit 0 set starts a transition. -/
def execWrTransitionCmd (req : Requester) (w : Word) (s : State) : Result := cmdWrite device req w s

/-- WR TRANSITION_CTRL (R191): bits 0 and 1, under the gate. -/
def execWrTransitionCtrl (req : Requester) (w : Word) (s : State) : Result := .next (ctrlWrite req w s)

/-- WR TRANSITION_TOKEN_0 (R193): token word 0 of the writer's own slot, under the gate. -/
def execWrTransitionToken0 (req : Requester) (w : Word) (s : State) : Result := .next (tokenWrite req 0 w s)

/-- WR TRANSITION_TOKEN_1 (R195): token word 1 of the writer's own slot, under the gate. -/
def execWrTransitionToken1 (req : Requester) (w : Word) (s : State) : Result := .next (tokenWrite req 1 w s)

/-- WR TRANSITION_TOKEN_2 (R197): token word 2 of the writer's own slot, under the gate. -/
def execWrTransitionToken2 (req : Requester) (w : Word) (s : State) : Result := .next (tokenWrite req 2 w s)

/-- WR TRANSITION_TOKEN_3 (R199): token word 3 of the writer's own slot, under the gate. -/
def execWrTransitionToken3 (req : Requester) (w : Word) (s : State) : Result := .next (tokenWrite req 3 w s)

/-- WR TRANSITION_TARGET (R201): the writer's own slot, bits 29:0, under the gate. -/
def execWrTransitionTarget (req : Requester) (w : Word) (s : State) : Result := .next (targetWrite req w s)

/-- WR LC_STATE (R205): a read-only register; a guest error. -/
def execWrLcState (_req : Requester) (_w : Word) (s : State) : Result := .next (guestError s)

/-- WR LC_TRANSITION_CNT (R205): a read-only register; a guest error. -/
def execWrLcTransitionCnt (_req : Requester) (_w : Word) (s : State) : Result := .next (guestError s)

/-- WR LC_ID_STATE (R205): a read-only register; a guest error. -/
def execWrLcIdState (_req : Requester) (_w : Word) (s : State) : Result := .next (guestError s)

/-- WR HW_REVISION0 (R205): a read-only register; a guest error. -/
def execWrHwRevision0 (_req : Requester) (_w : Word) (s : State) : Result := .next (guestError s)

/-- WR HW_REVISION1 (R205): a read-only register; a guest error. -/
def execWrHwRevision1 (_req : Requester) (_w : Word) (s : State) : Result := .next (guestError s)

/-- WR DEVICE_ID_0 (R205): a read-only register; a guest error. -/
def execWrDeviceId0 (_req : Requester) (_w : Word) (s : State) : Result := .next (guestError s)

/-- WR DEVICE_ID_1 (R205): a read-only register; a guest error. -/
def execWrDeviceId1 (_req : Requester) (_w : Word) (s : State) : Result := .next (guestError s)

/-- WR DEVICE_ID_2 (R205): a read-only register; a guest error. -/
def execWrDeviceId2 (_req : Requester) (_w : Word) (s : State) : Result := .next (guestError s)

/-- WR DEVICE_ID_3 (R205): a read-only register; a guest error. -/
def execWrDeviceId3 (_req : Requester) (_w : Word) (s : State) : Result := .next (guestError s)

/-- WR DEVICE_ID_4 (R205): a read-only register; a guest error. -/
def execWrDeviceId4 (_req : Requester) (_w : Word) (s : State) : Result := .next (guestError s)

/-- WR DEVICE_ID_5 (R205): a read-only register; a guest error. -/
def execWrDeviceId5 (_req : Requester) (_w : Word) (s : State) : Result := .next (guestError s)

/-- WR DEVICE_ID_6 (R205): a read-only register; a guest error. -/
def execWrDeviceId6 (_req : Requester) (_w : Word) (s : State) : Result := .next (guestError s)

/-- WR DEVICE_ID_7 (R205): a read-only register; a guest error. -/
def execWrDeviceId7 (_req : Requester) (_w : Word) (s : State) : Result := .next (guestError s)

/-- WR MANUF_STATE_0 (R205): a read-only register; a guest error. -/
def execWrManufState0 (_req : Requester) (_w : Word) (s : State) : Result := .next (guestError s)

/-- WR MANUF_STATE_1 (R205): a read-only register; a guest error. -/
def execWrManufState1 (_req : Requester) (_w : Word) (s : State) : Result := .next (guestError s)

/-- WR MANUF_STATE_2 (R205): a read-only register; a guest error. -/
def execWrManufState2 (_req : Requester) (_w : Word) (s : State) : Result := .next (guestError s)

/-- WR MANUF_STATE_3 (R205): a read-only register; a guest error. -/
def execWrManufState3 (_req : Requester) (_w : Word) (s : State) : Result := .next (guestError s)

/-- WR MANUF_STATE_4 (R205): a read-only register; a guest error. -/
def execWrManufState4 (_req : Requester) (_w : Word) (s : State) : Result := .next (guestError s)

/-- WR MANUF_STATE_5 (R205): a read-only register; a guest error. -/
def execWrManufState5 (_req : Requester) (_w : Word) (s : State) : Result := .next (guestError s)

/-- WR MANUF_STATE_6 (R205): a read-only register; a guest error. -/
def execWrManufState6 (_req : Requester) (_w : Word) (s : State) : Result := .next (guestError s)

/-- WR MANUF_STATE_7 (R205): a read-only register; a guest error. -/
def execWrManufState7 (_req : Requester) (_w : Word) (s : State) : Result := .next (guestError s)

/-- WR (R210): offset 0x30 holds no register; a guest error. -/
def execWrUnmapped30 (_req : Requester) (_w : Word) (s : State) : Result := .next (guestError s)

/-- WR (R210): offset 0x34 holds no register; a guest error. -/
def execWrUnmapped34 (_req : Requester) (_w : Word) (s : State) : Result := .next (guestError s)

/-- WR (R211): offset 0x8C holds no register; a guest error. -/
def execWrOutOfRange8C8C (_req : Requester) (_w : Word) (s : State) : Result := .next (guestError s)

/-- WR at a word-aligned offset of 90 to 9C, beyond the window (R211): a guest error. -/
def execWrOutOfRange909C (_req : Requester) (_off : BitVec 8) (_w : Word) (s : State) : Result := .next (guestError s)

/-- WR at a word-aligned offset of A0 to BC, beyond the window (R211): a guest error. -/
def execWrOutOfRangeA0Bc (_req : Requester) (_off : BitVec 8) (_w : Word) (s : State) : Result := .next (guestError s)

/-- WR at a word-aligned offset of C0 to FC, beyond the window (R211): a guest error. -/
def execWrOutOfRangeC0Fc (_req : Requester) (_off : BitVec 8) (_w : Word) (s : State) : Result := .next (guestError s)

end Sys2Proof.Machine
end

