-- ==== Sys2Proof/Machine/Dispatch.lean ====
section
/-! DEFINITION. The dispatch: one arm per constructor of Instr. -/

namespace Sys2Proof.Machine

def exec (i : Instr) (s : State) : Host.Outcome State Fault Refusal :=
  match i with
  | .rdAlertTest req => Sys2Proof.Machine.execRdAlertTest req s
  | .wrAlertTest req w => Sys2Proof.Machine.execWrAlertTest req w s
  | .rdStatus req => Sys2Proof.Machine.execRdStatus req s
  | .wrStatus req w => Sys2Proof.Machine.execWrStatus req w s
  | .rdClaimTransitionIfRegwen req => Sys2Proof.Machine.execRdClaimTransitionIfRegwen req s
  | .wrClaimTransitionIfRegwen req w => Sys2Proof.Machine.execWrClaimTransitionIfRegwen req w s
  | .rdClaimTransitionIf req => Sys2Proof.Machine.execRdClaimTransitionIf req s
  | .wrClaimTransitionIf req w => Sys2Proof.Machine.execWrClaimTransitionIf req w s
  | .rdTransitionRegwen req => Sys2Proof.Machine.execRdTransitionRegwen req s
  | .wrTransitionRegwen req w => Sys2Proof.Machine.execWrTransitionRegwen req w s
  | .rdTransitionCmd req => Sys2Proof.Machine.execRdTransitionCmd req s
  | .wrTransitionCmd req w => Sys2Proof.Machine.execWrTransitionCmd req w s
  | .rdTransitionCtrl req => Sys2Proof.Machine.execRdTransitionCtrl req s
  | .wrTransitionCtrl req w => Sys2Proof.Machine.execWrTransitionCtrl req w s
  | .rdTransitionToken0 req => Sys2Proof.Machine.execRdTransitionToken0 req s
  | .wrTransitionToken0 req w => Sys2Proof.Machine.execWrTransitionToken0 req w s
  | .rdTransitionToken1 req => Sys2Proof.Machine.execRdTransitionToken1 req s
  | .wrTransitionToken1 req w => Sys2Proof.Machine.execWrTransitionToken1 req w s
  | .rdTransitionToken2 req => Sys2Proof.Machine.execRdTransitionToken2 req s
  | .wrTransitionToken2 req w => Sys2Proof.Machine.execWrTransitionToken2 req w s
  | .rdTransitionToken3 req => Sys2Proof.Machine.execRdTransitionToken3 req s
  | .wrTransitionToken3 req w => Sys2Proof.Machine.execWrTransitionToken3 req w s
  | .rdTransitionTarget req => Sys2Proof.Machine.execRdTransitionTarget req s
  | .wrTransitionTarget req w => Sys2Proof.Machine.execWrTransitionTarget req w s
  | .rdLcState req => Sys2Proof.Machine.execRdLcState req s
  | .wrLcState req w => Sys2Proof.Machine.execWrLcState req w s
  | .rdLcTransitionCnt req => Sys2Proof.Machine.execRdLcTransitionCnt req s
  | .wrLcTransitionCnt req w => Sys2Proof.Machine.execWrLcTransitionCnt req w s
  | .rdLcIdState req => Sys2Proof.Machine.execRdLcIdState req s
  | .wrLcIdState req w => Sys2Proof.Machine.execWrLcIdState req w s
  | .rdHwRevision0 req => Sys2Proof.Machine.execRdHwRevision0 req s
  | .wrHwRevision0 req w => Sys2Proof.Machine.execWrHwRevision0 req w s
  | .rdHwRevision1 req => Sys2Proof.Machine.execRdHwRevision1 req s
  | .wrHwRevision1 req w => Sys2Proof.Machine.execWrHwRevision1 req w s
  | .rdDeviceId0 req => Sys2Proof.Machine.execRdDeviceId0 req s
  | .wrDeviceId0 req w => Sys2Proof.Machine.execWrDeviceId0 req w s
  | .rdDeviceId1 req => Sys2Proof.Machine.execRdDeviceId1 req s
  | .wrDeviceId1 req w => Sys2Proof.Machine.execWrDeviceId1 req w s
  | .rdDeviceId2 req => Sys2Proof.Machine.execRdDeviceId2 req s
  | .wrDeviceId2 req w => Sys2Proof.Machine.execWrDeviceId2 req w s
  | .rdDeviceId3 req => Sys2Proof.Machine.execRdDeviceId3 req s
  | .wrDeviceId3 req w => Sys2Proof.Machine.execWrDeviceId3 req w s
  | .rdDeviceId4 req => Sys2Proof.Machine.execRdDeviceId4 req s
  | .wrDeviceId4 req w => Sys2Proof.Machine.execWrDeviceId4 req w s
  | .rdDeviceId5 req => Sys2Proof.Machine.execRdDeviceId5 req s
  | .wrDeviceId5 req w => Sys2Proof.Machine.execWrDeviceId5 req w s
  | .rdDeviceId6 req => Sys2Proof.Machine.execRdDeviceId6 req s
  | .wrDeviceId6 req w => Sys2Proof.Machine.execWrDeviceId6 req w s
  | .rdDeviceId7 req => Sys2Proof.Machine.execRdDeviceId7 req s
  | .wrDeviceId7 req w => Sys2Proof.Machine.execWrDeviceId7 req w s
  | .rdManufState0 req => Sys2Proof.Machine.execRdManufState0 req s
  | .wrManufState0 req w => Sys2Proof.Machine.execWrManufState0 req w s
  | .rdManufState1 req => Sys2Proof.Machine.execRdManufState1 req s
  | .wrManufState1 req w => Sys2Proof.Machine.execWrManufState1 req w s
  | .rdManufState2 req => Sys2Proof.Machine.execRdManufState2 req s
  | .wrManufState2 req w => Sys2Proof.Machine.execWrManufState2 req w s
  | .rdManufState3 req => Sys2Proof.Machine.execRdManufState3 req s
  | .wrManufState3 req w => Sys2Proof.Machine.execWrManufState3 req w s
  | .rdManufState4 req => Sys2Proof.Machine.execRdManufState4 req s
  | .wrManufState4 req w => Sys2Proof.Machine.execWrManufState4 req w s
  | .rdManufState5 req => Sys2Proof.Machine.execRdManufState5 req s
  | .wrManufState5 req w => Sys2Proof.Machine.execWrManufState5 req w s
  | .rdManufState6 req => Sys2Proof.Machine.execRdManufState6 req s
  | .wrManufState6 req w => Sys2Proof.Machine.execWrManufState6 req w s
  | .rdManufState7 req => Sys2Proof.Machine.execRdManufState7 req s
  | .wrManufState7 req w => Sys2Proof.Machine.execWrManufState7 req w s
  | .rdUnmapped30 req => Sys2Proof.Machine.execRdUnmapped30 req s
  | .wrUnmapped30 req w => Sys2Proof.Machine.execWrUnmapped30 req w s
  | .rdUnmapped34 req => Sys2Proof.Machine.execRdUnmapped34 req s
  | .wrUnmapped34 req w => Sys2Proof.Machine.execWrUnmapped34 req w s
  | .rdOutOfRange8C8C req => Sys2Proof.Machine.execRdOutOfRange8C8C req s
  | .wrOutOfRange8C8C req w => Sys2Proof.Machine.execWrOutOfRange8C8C req w s
  | .rdOutOfRange909C req off => Sys2Proof.Machine.execRdOutOfRange909C req off s
  | .wrOutOfRange909C req off w => Sys2Proof.Machine.execWrOutOfRange909C req off w s
  | .rdOutOfRangeA0Bc req off => Sys2Proof.Machine.execRdOutOfRangeA0Bc req off s
  | .wrOutOfRangeA0Bc req off w => Sys2Proof.Machine.execWrOutOfRangeA0Bc req off w s
  | .rdOutOfRangeC0Fc req off => Sys2Proof.Machine.execRdOutOfRangeC0Fc req off s
  | .wrOutOfRangeC0Fc req off w => Sys2Proof.Machine.execWrOutOfRangeC0Fc req off w s
  | .reset => Sys2Proof.Machine.execReset s
  | .init info forceRaw => Sys2Proof.Machine.execInit info forceRaw s
  | .otpAck ok => Sys2Proof.Machine.execOtpAck ok s
  | .hashRsp share0 share1 done => Sys2Proof.Machine.execHashRsp share0 share1 done s
  | .escalate => Sys2Proof.Machine.execEscalate s
  | .claim req hi => Sys2Proof.Machine.execClaim req hi s
  | .release req hi => Sys2Proof.Machine.execRelease req hi s
  | .start req hi => Sys2Proof.Machine.execStart req hi s
  | .lockClaim req hi => Sys2Proof.Machine.execLockClaim req hi s

end Sys2Proof.Machine
end

