-- ==== Sys2Proof/Machine/Step.lean ====
section
/-! DEFINITION. One step: one stimulus, one atomic reaction (R50). -/

namespace Sys2Proof.Machine

/-- The state in which a stimulus is executed: the input has been taken, the backend's answer for this reaction is known (R48), and the outputs of the preceding
reaction are gone (R50: they were that reaction's). -/
def State.beginReaction (s : State) (inp : Input) (rest : List Input) : State :=
  { s with
    inputs := rest
    otpAccept := inp.accepted
    rdata := none
    emitted := []
    diag := [] }

/-- The step. Without a stimulus nothing happens: "Nothing else changes the state" (R60; log entry 1). What the decoder finds to be no stimulus is refused by name. -/
def step (s : State) : Host.Outcome State Fault Refusal :=
  match s.inputs with
  | [] => .next s
  | inp :: rest =>
    match decode inp.stim with
    | .error e => .refused (refusalOf e)
    | .ok i => exec i (s.beginReaction inp rest)

/-- The state whose next step runs the stimulus of the opcode table's bits `w`: the stimulus is presented before those still waiting; the backend's answer
that comes with it is the one the state holds (log entry 1). -/
def State.withFetchWord (s : State) (nbits w : Nat) : State :=
  { s with inputs := ⟨tableStimulus nbits w, s.otpAccept⟩ :: s.inputs }

end Sys2Proof.Machine
end

