-- ==== Sys2Proof/Safety.lean ====
section
/-! DEFINITION. What counts as a safe run: the invariant of the reachable states (R31 and the rules it follows from), the environment's contract, and the moves the FSM may
make. The statements are written in these terms. -/

namespace Sys2Proof

open Machine

/-- Transient: entered and left inside one reaction (R136). -/
def FsmState.transient : FsmState → Bool
  | .clkMux | .cntIncr | .transCheck | .tokenCheck => true
  | .reset | .idle | .cntProg | .tokenHash | .transProg | .postTrans | .scrap | .escalate | .invalid => false

/-- Terminal: left only by RESET (R9, R136, R157). -/
def FsmState.terminal : FsmState → Bool
  | .scrap | .escalate | .invalid => true
  | .reset | .idle | .clkMux | .cntIncr | .cntProg | .transCheck | .tokenHash | .tokenCheck | .transProg
  | .postTrans => false

/-- The FSM states of a device whose life-cycle state was found fully valid and that is not terminal: IDLE, the waiting states of a transition, POST_TRANS. -/
def FsmState.live : FsmState → Bool
  | .idle | .cntProg | .tokenHash | .transProg | .postTrans => true
  | .reset | .clkMux | .cntIncr | .transCheck | .tokenCheck | .scrap | .escalate | .invalid => false

/-- A real life-cycle state other than SCRAP (R31 item 4). -/
def LcStateVal.unscrapped : LcStateVal → Bool
  | .real l => l != .scrap
  | .lcsInvalid => false

/-- A count in 0..24 (R31 item 4). -/
def LcCntVal.valid : LcCntVal → Bool
  | .count _ => true
  | .cntInvalid => false

/-- The order of counts: no count is below an equal or smaller one; CNT_INVALID is only itself (R13, R31 item 5). -/
def LcCntVal.le : LcCntVal → LcCntVal → Bool
  | .count n, .count m => n ≤ m
  | .cntInvalid, .cntInvalid => true
  | .count _, .cntInvalid => false
  | .cntInvalid, .count _ => false

/-- Every status bit that is 1 in `a` is 1 in `b` (R18, R31 item 8). -/
def statusLe (a b : Status) : Bool :=
  (!a.initialized || b.initialized) && (!a.extClockSwitched || b.extClockSwitched)
    && (!a.transitionSuccessful || b.transitionSuccessful) && (!a.transitionCountError || b.transitionCountError)
    && (!a.transitionError || b.transitionError) && (!a.tokenError || b.tokenError)
    && (!a.otpError || b.otpError) && (!a.stateError || b.stateError)

/-- The invariant of the states reached from reset: R31 items 1 to 4 and what makes them inductive. (R31 item 1 is the type of `owner`; items 5 to 8 compare two states.) -/
structure Inv (s : State) : Prop where
  /-- R136: no transient state between two stimuli. -/
  not_transient : s.fsm.transient = false
  /-- R31 item 2. -/
  pending_place : s.otpPending = true → s.fsm = .cntProg ∨ s.fsm = .transProg ∨ s.fsm = .escalate
  /-- R136: CNT_PROG and TRANS_PROG wait for an acknowledge. -/
  pending_wait : s.fsm = .cntProg ∨ s.fsm = .transProg → s.otpPending = true
  /-- R31 item 3. -/
  hash_place : s.hashState ≠ .hIdle → s.fsm = .tokenHash ∨ s.fsm = .escalate
  /-- R136, R149: TOKEN_HASH waits for the hash of the token of the transition's own requester. -/
  hash_wait : s.fsm = .tokenHash → s.hashState ≠ .hIdle ∧ s.hashReq = s.xactReq
  /-- R31 item 4, for every live FSM state. -/
  live_valid : s.fsm.live = true →
    s.initErr = 0#6 ∧ s.lcState.unscrapped = true ∧ s.lcCnt.valid = true ∧ s.idState ≠ .idInvalid
  /-- R148: past TRANS_CHECK the requested pair is one the matrix allows. -/
  pair_allowed : s.fsm = .tokenHash ∨ s.fsm = .transProg →
    requiredTokenFor device.transMatrix s.lcState s.tgt ≠ .invalid
  /-- R14, R201: bits 31:30 of a stored target are 0. -/
  target_high : ∀ req, (s.slot req).target.extractLsb' 30 2 = 0#2
  /-- R18, R129: the loader has run, unless the block is in RESET or was escalated from there. -/
  initialized : s.status.initialized = true ∨ s.fsm = .reset ∨ s.fsm = .escalate
  /-- R270, R273: in RESET no status bit is set and no check has failed. -/
  reset_clear : s.fsm = .reset → s.status = Status.zero ∧ s.initErr = 0#6
  /-- R129, R251: STATE_ERROR says that a check failed. -/
  state_error : s.status.stateError = true ↔ s.initErr ≠ 0#6
  /-- R129: the FSM state INVALID comes only of a failed check. -/
  invalid_checked : s.fsm = .invalid → s.initErr ≠ 0#6
  /-- R155: the FSM state SCRAP is entered only for a device that already holds SCRAP. -/
  scrap_held : s.fsm = .scrap → s.lcState = .real .scrap
  /-- R91, R92, R32: the construction-time entries of the Token Store never change. -/
  tokens_fixed : s.tokens.zero = TokenEntry.ofZero device ∧ s.tokens.rawUnlock = TokenEntry.ofRawUnlock device

/-- What the environment's contract lets arrive (R48, R104, R272): an OTP_ACK only for an accepted request, a HASH_RSP only for an emitted one and with its `done`. Bus
accesses, RESET, INIT and ESCALATE are free. The machine does not rest on it (log entry 16). -/
def contractAllows (s : State) : Instr → Bool
  | .otpAck _ => s.otpPending
  | .hashRsp _ _ done =>
    match s.hashState with
    | .hIdle => false
    | .hFirstSent => !done
    | .hSecondSent => done
  | _ => true

/-- The moves of `fsm` that a stimulus can make, between two stimuli (R135 with the transient states collapsed, R136). Every other stimulus leaves `fsm` as it is. -/
def fsmMove (i : Instr) (f t : FsmState) : Bool :=
  match i with
  | .reset => t == .reset
  | .escalate => t == .escalate
  | .init _ _ =>
    match f with
    | .reset => t == .idle || t == .scrap || t == .invalid
    | _ => t == f
  | .start _ _ | .wrTransitionCmd _ _ =>
    match f with
    | .idle => t == .idle || t == .cntProg || t == .postTrans
    | _ => t == f
  | .claim _ _ | .wrClaimTransitionIf _ _ =>
    match f with
    | .postTrans => t == .postTrans || t == .idle
    | _ => t == f
  | .otpAck _ =>
    match f with
    | .cntProg => t == .cntProg || t == .tokenHash || t == .postTrans
    | .transProg => t == .transProg || t == .postTrans || t == .escalate
    | _ => t == f
  | .hashRsp _ _ _ =>
    match f with
    | .tokenHash => t == .tokenHash || t == .transProg || t == .postTrans
    | _ => t == f
  | _ => t == f

/-- The requester of a bus stimulus; an event has none. -/
def stimulusReq (i : Instr) : Option Requester :=
  match encode i with
  | .bus _ w => some (busIfc w)
  | .evt _ _ => none

/-- Whether a stimulus is a bus read (R61 `we == 0`). -/
def isRead (i : Instr) : Bool :=
  match encode i with
  | .bus _ w => !busWe w
  | .evt _ _ => false

/-- The requester whose stimulus is a start command (R189, R63): a write of 1 to bit 0 of TRANSITION_CMD. -/
def commandReq : Instr → Option Requester
  | .start req _ => some req
  | .wrTransitionCmd req w => if w.getLsbD 0 then some req else none
  | _ => none

/-- The requester whose stimulus claims (R185, R70, R63): 0x96 in bits 7:0 of CLAIM_TRANSITION_IF. -/
def claimReq : Instr → Option Requester
  | .claim req _ => some req
  | .wrClaimTransitionIf req w => if w.extractLsb' 0 8 = 0x96#8 then some req else none
  | _ => none

/-- The requester whose stimulus releases (R185, R70, R63): any other value in bits 7:0. -/
def releaseReq : Instr → Option Requester
  | .release req _ => some req
  | .wrClaimTransitionIf req w => if w.extractLsb' 0 8 = 0x96#8 then none else some req
  | _ => none

/-- The complete list of guest errors (the table of R246); the list of R246's defined no-ops and every other stimulus is in the `false` part. -/
def guestErrorCause (s : State) : Instr → Bool
  -- read or write at 0x30, 0x34, 0x8C and above
  | .rdUnmapped30 _ | .wrUnmapped30 _ _ | .rdUnmapped34 _ | .wrUnmapped34 _ _ | .rdOutOfRange8C8C _
  | .wrOutOfRange8C8C _ _ | .rdOutOfRange909C _ _ | .wrOutOfRange909C _ _ _ | .rdOutOfRangeA0Bc _ _
  | .wrOutOfRangeA0Bc _ _ _ | .rdOutOfRangeC0Fc _ _ | .wrOutOfRangeC0Fc _ _ _ => true
  -- write to a read-only register
  | .wrStatus _ _ | .wrTransitionRegwen _ _ | .wrLcState _ _ | .wrLcTransitionCnt _ _ | .wrLcIdState _ _
  | .wrHwRevision0 _ _ | .wrHwRevision1 _ _
  | .wrDeviceId0 _ _ | .wrDeviceId1 _ _ | .wrDeviceId2 _ _ | .wrDeviceId3 _ _ | .wrDeviceId4 _ _ | .wrDeviceId5 _ _
  | .wrDeviceId6 _ _ | .wrDeviceId7 _ _
  | .wrManufState0 _ _ | .wrManufState1 _ _ | .wrManufState2 _ _ | .wrManufState3 _ _ | .wrManufState4 _ _
  | .wrManufState5 _ _ | .wrManufState6 _ _ | .wrManufState7 _ _ => true
  -- write of 0 to CLAIM_TRANSITION_IF_REGWEN by a non-owner or outside IDLE
  | .wrClaimTransitionIfRegwen req w => !w.getLsbD 0 && !s.transRegwen req
  | .lockClaim req _ => !s.transRegwen req
  -- write to CLAIM_TRANSITION_IF when claim_regwen is 0
  | .wrClaimTransitionIf _ _ | .claim _ _ | .release _ _ => !s.claimRegwen
  -- write of 1 to TRANSITION_CMD by a non-owner or outside IDLE
  | .wrTransitionCmd req w => w.getLsbD 0 && !s.transRegwen req
  | .start req _ => !s.transRegwen req
  -- write to TRANSITION_CTRL, TRANSITION_TOKEN_i, TRANSITION_TARGET when TransRegwen is 0
  | .wrTransitionCtrl req _ | .wrTransitionToken0 req _ | .wrTransitionToken1 req _ | .wrTransitionToken2 req _
  | .wrTransitionToken3 req _ | .wrTransitionTarget req _ => !s.transRegwen req
  | .rdAlertTest _ | .wrAlertTest _ _ | .rdStatus _ | .rdClaimTransitionIfRegwen _ | .rdClaimTransitionIf _
  | .rdTransitionRegwen _ | .rdTransitionCmd _ | .rdTransitionCtrl _ | .rdTransitionToken0 _ | .rdTransitionToken1 _
  | .rdTransitionToken2 _ | .rdTransitionToken3 _ | .rdTransitionTarget _ | .rdLcState _ | .rdLcTransitionCnt _
  | .rdLcIdState _ | .rdHwRevision0 _ | .rdHwRevision1 _
  | .rdDeviceId0 _ | .rdDeviceId1 _ | .rdDeviceId2 _ | .rdDeviceId3 _ | .rdDeviceId4 _ | .rdDeviceId5 _ | .rdDeviceId6 _
  | .rdDeviceId7 _
  | .rdManufState0 _ | .rdManufState1 _ | .rdManufState2 _ | .rdManufState3 _ | .rdManufState4 _ | .rdManufState5 _
  | .rdManufState6 _ | .rdManufState7 _
  | .reset | .init _ _ | .otpAck _ | .hashRsp _ _ _ | .escalate => false

/-- The two requesters exchanged (R258 "symmetric"). The inputs still to come are not part of what a reaction reads. -/
def swapRequesters (s : State) : State :=
  { s with
    slotSw := s.slotDbg
    slotDbg := s.slotSw
    owner := s.owner.map Requester.other
    hashReq := s.hashReq.other
    xactReq := s.xactReq.other }

/-- An outcome with the two requesters exchanged. -/
def swapResult : Result → Result
  | .next t => .next (swapRequesters t)
  | .fault f => .fault f
  | .refused r => .refused r

end Sys2Proof
end

