-- ==== Sys2Proof/Certificates/Slice0/Obligations.lean ====
section
/-! DEFINITION. The statements for the provers. Each docstring names the rules a statement formalises. Where a clause rests on one of the spec's own
decisions (marked D<n> in the rule itself, 92_eei_decisions.md) or on a choice of the model (a log entry), the docstring says so.

An equation `exec i s = .next t` says the whole of the next state: every element that `t` does not name is unchanged. -/

section

open Sys2Proof Sys2Proof.Machine

/-! ### Decoding and encoding -/

/-- The decoder gives back every well-formed instruction from its encoding, with every operand at every value (R41 D3, R61 to R63 D2; that the words of a
pseudo-stimulus decode to it, and that an ignored `wdata` is written 0, are the model's choices: log entries 11, 12). -/
def Obligations.DecodeOfEncodeGivesTheInstruction : Prop :=
  ∀ i : Instr, i.wellFormed = true → decode (encode i) = .ok i

/-- Every BUS word with an aligned offset is a stimulus, whatever its other bits (R61 D2, 93 U15): it decodes to a well-formed instruction; the encoding of
that instruction is the word itself, for a read up to the ignored `wdata` (log entry 12). -/
def Obligations.EveryAlignedBusWordIsOneStimulus : Prop :=
  ∀ w : BusWord, offAligned (busOff w) = true →
    ∃ i, decode (.bus .word w) = .ok i ∧ i.wellFormed = true ∧
      encode i = .bus .word (if busWe w then w else busWord (busIfc w) false (busOff w) 0#32)

/-- Words of stimuli the spec writes out (95_test_vectors.md, parts 2 and 3; the word of `WR DBG, TRANSITION_TARGET, 0x294A5294` is computed there bit field by
bit field) decode to those stimuli, and the event code 0x05 of the table of R62 (30_encoding.md section 1) decodes to ESCALATE. That the two words which 95 writes
as `WR SW, CLAIM_TRANSITION_IF, 0x96` and `WR SW, TRANSITION_CMD, 1` decode to the pseudo-stimuli CLAIM and START (R63), and not to the constructors of those two
writes, is the model's choice: the decoder's preference of log entry 11 (DESIGN CHOICE). -/
def Obligations.WordsWrittenOutInTheSpecDecode : Prop :=
  decode (.bus .word 0x10C00000096#42) = .ok (.claim .sw 0#24) ∧
  decode (.bus .word 0x11400000001#42) = .ok (.start .sw 0#31) ∧
  decode (.bus .word 0x11400000000#42) = .ok (.wrTransitionCmd .sw 0#32) ∧
  decode (.bus .word 0x32C294A5294#42) = .ok (.wrTransitionTarget .dbg 0x294A5294#32) ∧
  decode (.bus .word 0x124DEADBEEF#42) = .ok (.wrTransitionToken2 .sw 0xDEADBEEF#32) ∧
  decode (.bus .word 0x22400000000#42) = .ok (.rdTransitionToken2 .dbg) ∧
  decode (.bus .word 0x03800000000#42) = .ok (.rdLcState .sw) ∧
  decode (.bus .word 0x24800000000#42) = .ok (.rdHwRevision1 .dbg) ∧
  decode (.bus .word 0x28800000000#42) = .ok (.rdManufState7 .dbg) ∧
  decode (.bus .word 0x13400000001#42) = .ok (.wrUnmapped34 .sw 1#32) ∧
  decode (.bus .word 0x3FCFFFFFFFF#42) = .ok (.wrOutOfRangeC0Fc .dbg 0xFC#8 0xFFFFFFFF#32) ∧
  decode (.evt 0x05#8 EvtOperands.zero) = .ok .escalate

/-- What is no stimulus is refused by name: a narrower access, a misaligned offset (R44 D32, 93 U2), an event code outside 0x01 to 0x05 (R62 D2,
93 U15). -/
def Obligations.WhatIsNoStimulusIsRefused : Prop :=
  ∀ (s : State) (inp : Input) (rest : List Input), s.inputs = inp :: rest →
    (∀ w, inp.stim = .bus .byte w ∨ inp.stim = .bus .half w → step s = .refused .notWordWide) ∧
    (∀ w, inp.stim = .bus .word w → (busOff w).toNat % 4 ≠ 0 → step s = .refused .misaligned) ∧
    (∀ code ops, inp.stim = .evt code ops → code.toNat = 0 ∨ 6 ≤ code.toNat → step s = .refused .notAnEvent)

/-- One step takes one stimulus and runs the instruction it decodes to, in the state in which that input has been taken, the backend's answer is the one that
came with it and the outputs of the preceding reaction are gone; with no stimulus nothing happens. That the stimuli stand in a list of State is the model's
(log entry 1); "Nothing else changes the state" is R60 (D2). -/
def Obligations.StepRunsTheDecodedInstruction : Prop :=
  (∀ (s : State) (inp : Input) (rest : List Input) (i : Instr), s.inputs = inp :: rest → decode inp.stim = .ok i →
    step s = exec i { s with inputs := rest, otpAccept := inp.accepted, rdata := none, emitted := [], diag := [] }) ∧
  (∀ s : State, s.inputs = [] → step s = .next s)

/-! ### Reads -/

/-- Reads that give a constant: the two write-only registers read 0 (R178 D36, R188 D37); the revision registers and the sixteen identity words come from the
configuration (R206, R207 D35; R208, R209 D42). The two write-enables and the claim register as each requester reads them (R182 D9, R184 D8, R186 D10): 1 and
0; 0x96 to the owner, 0x69 to anyone else; 1 exactly for the owner in IDLE. Every other element is unchanged. -/
def Obligations.ReadsOfConstantsAndClaimRegistersComplete : Prop :=
  ∀ (req : Requester) (s : State),
    exec (.rdAlertTest req) s = .next { s with rdata := some 0#32 } ∧
    exec (.rdTransitionCmd req) s = .next { s with rdata := some 0#32 } ∧
    exec (.rdHwRevision0 req) s = .next { s with rdata := some (device.siliconCreatorId ++ device.productId) } ∧
    exec (.rdHwRevision1 req) s = .next { s with rdata := some (0#24 ++ device.revisionId) } ∧
    exec (.rdDeviceId0 req) s = .next { s with rdata := some (device.deviceId 0) } ∧
    exec (.rdDeviceId1 req) s = .next { s with rdata := some (device.deviceId 1) } ∧
    exec (.rdDeviceId2 req) s = .next { s with rdata := some (device.deviceId 2) } ∧
    exec (.rdDeviceId3 req) s = .next { s with rdata := some (device.deviceId 3) } ∧
    exec (.rdDeviceId4 req) s = .next { s with rdata := some (device.deviceId 4) } ∧
    exec (.rdDeviceId5 req) s = .next { s with rdata := some (device.deviceId 5) } ∧
    exec (.rdDeviceId6 req) s = .next { s with rdata := some (device.deviceId 6) } ∧
    exec (.rdDeviceId7 req) s = .next { s with rdata := some (device.deviceId 7) } ∧
    exec (.rdManufState0 req) s = .next { s with rdata := some (device.manufState 0) } ∧
    exec (.rdManufState1 req) s = .next { s with rdata := some (device.manufState 1) } ∧
    exec (.rdManufState2 req) s = .next { s with rdata := some (device.manufState 2) } ∧
    exec (.rdManufState3 req) s = .next { s with rdata := some (device.manufState 3) } ∧
    exec (.rdManufState4 req) s = .next { s with rdata := some (device.manufState 4) } ∧
    exec (.rdManufState5 req) s = .next { s with rdata := some (device.manufState 5) } ∧
    exec (.rdManufState6 req) s = .next { s with rdata := some (device.manufState 6) } ∧
    exec (.rdManufState7 req) s = .next { s with rdata := some (device.manufState 7) } ∧
    exec (.rdClaimTransitionIfRegwen req) s = .next { s with rdata := some (if s.claimRegwen then 1#32 else 0#32) } ∧
    exec (.rdClaimTransitionIf req) s = .next { s with rdata := some (if s.owner = some req then 0x96#32 else 0x69#32) } ∧
    exec (.rdTransitionRegwen req) s =
      .next { s with rdata := some (if s.owner = some req ∧ s.fsm = .idle then 1#32 else 0#32) }

/-- R180: a read of STATUS returns its nine bits, every other bit 0; the value is the same for both requesters; reading clears nothing. -/
def Obligations.ReadOfStatusReturnsItsBits : Prop :=
  ∀ s : State, ∃ v : Word,
    (∀ req, exec (.rdStatus req) s = .next { s with rdata := some v }) ∧
    v.getLsbD 0 = s.status.initialized ∧
    v.getLsbD 1 = (s.fsm == .idle) ∧
    v.getLsbD 2 = s.status.extClockSwitched ∧
    v.getLsbD 3 = s.status.transitionSuccessful ∧
    v.getLsbD 4 = s.status.transitionCountError ∧
    v.getLsbD 5 = s.status.transitionError ∧
    v.getLsbD 6 = s.status.tokenError ∧
    v.getLsbD 8 = s.status.otpError ∧
    v.getLsbD 9 = s.status.stateError ∧
    ∀ n, n = 7 ∨ 10 ≤ n → v.getLsbD n = false

/-- The control register, shared, and the exclusive registers of the reader's OWN slot, in every FSM state and whoever owns the mutex (R190 D10; R192, R194,
R196, R198, R200 D11). -/
def Obligations.ReadsOfTheTransitionRegistersComplete : Prop :=
  ∀ s : State,
    (∀ req, exec (.rdTransitionCtrl req) s =
      .next { s with rdata := some ((if s.ctrl.volatileRawUnlock then 2#32 else 0#32) +
        (if s.ctrl.extClockEn then 1#32 else 0#32)) }) ∧
    exec (.rdTransitionToken0 .sw) s = .next { s with rdata := some s.slotSw.token0 } ∧
    exec (.rdTransitionToken1 .sw) s = .next { s with rdata := some s.slotSw.token1 } ∧
    exec (.rdTransitionToken2 .sw) s = .next { s with rdata := some s.slotSw.token2 } ∧
    exec (.rdTransitionToken3 .sw) s = .next { s with rdata := some s.slotSw.token3 } ∧
    exec (.rdTransitionTarget .sw) s = .next { s with rdata := some s.slotSw.target } ∧
    exec (.rdTransitionToken0 .dbg) s = .next { s with rdata := some s.slotDbg.token0 } ∧
    exec (.rdTransitionToken1 .dbg) s = .next { s with rdata := some s.slotDbg.token1 } ∧
    exec (.rdTransitionToken2 .dbg) s = .next { s with rdata := some s.slotDbg.token2 } ∧
    exec (.rdTransitionToken3 .dbg) s = .next { s with rdata := some s.slotDbg.token3 } ∧
    exec (.rdTransitionTarget .dbg) s = .next { s with rdata := some s.slotDbg.target }

/-- LC_STATE (R202, R30 D27; the encodings R66, R67 D5): the synthetic values in POST_TRANS, ESCALATE and INVALID, SCRAP in the FSM state SCRAP, the current
state's index times 0x02108421 otherwise, INVALID if there is no real state. In RESET a FREE value in bits 29:0 (U1; log entry 8): nothing is said of it, but
that the next one is another draw. -/
def Obligations.ReadOfLcStateReturnsTheView : Prop :=
  ∀ (req : Requester) (s : State),
    (s.fsm = .postTrans → exec (.rdLcState req) s = .next { s with rdata := some 0x2B5AD6B5#32 }) ∧
    (s.fsm = .escalate → exec (.rdLcState req) s = .next { s with rdata := some 0x2D6B5AD6#32 }) ∧
    (s.fsm = .invalid → exec (.rdLcState req) s = .next { s with rdata := some 0x2F7BDEF7#32 }) ∧
    (s.fsm = .scrap → exec (.rdLcState req) s = .next { s with rdata := some 0x294A5294#32 }) ∧
    (s.fsm.terminal = false → s.fsm ≠ .postTrans → s.fsm ≠ .reset →
      (∀ l, s.lcState = .real l →
        exec (.rdLcState req) s = .next { s with rdata := some (BitVec.ofNat 32 (l.idx * 0x02108421)) }) ∧
      (s.lcState = .lcsInvalid → exec (.rdLcState req) s = .next { s with rdata := some 0x2F7BDEF7#32 })) ∧
    (s.fsm = .reset →
      exec (.rdLcState req) s =
        .next { s with rdata := some (0#2 ++ Config.freeLcState s.freeCtr), freeCtr := s.freeCtr + 1 })

/-- LC_TRANSITION_CNT and LC_ID_STATE (R203, R30 D6, D27; R204 D7; R68, R69) where the loader has run; where it has not, in RESET (R287, U1) and after an
escalation from RESET (DEDUCED, log entry 9), FREE values (log entry 8). -/
def Obligations.ReadsOfCountAndIdReturnTheViews : Prop :=
  ∀ (req : Requester) (s : State),
    (s.fsm ≠ .reset → s.status.initialized = true →
      (∀ n : Fin 25, s.lcCnt = .count n →
        exec (.rdLcTransitionCnt req) s = .next { s with rdata := some (BitVec.ofNat 32 n.val) }) ∧
      (s.lcCnt = .cntInvalid → exec (.rdLcTransitionCnt req) s = .next { s with rdata := some 31#32 }) ∧
      (s.idState = .blank → exec (.rdLcIdState req) s = .next { s with rdata := some 0x00000000#32 }) ∧
      (s.idState = .personalized → exec (.rdLcIdState req) s = .next { s with rdata := some 0x55555555#32 }) ∧
      (s.idState = .idInvalid → exec (.rdLcIdState req) s = .next { s with rdata := some 0xAAAAAAAA#32 })) ∧
    (s.fsm = .reset ∨ s.status.initialized = false →
      exec (.rdLcTransitionCnt req) s =
        .next { s with rdata := some (0#27 ++ Config.freeLcCnt s.freeCtr), freeCtr := s.freeCtr + 1 } ∧
      exec (.rdLcIdState req) s =
        .next { s with rdata := some (Config.freeIdState s.freeCtr), freeCtr := s.freeCtr + 1 })

/-- A read where no register is: a guest error that returns 0, and nothing else (R46, R210 D36, R211 D32). The diagnostic is the model's record of it (log
entry 4). -/
def Obligations.ReadsWhereNoRegisterIsReturnZero : Prop :=
  ∀ (req : Requester) (off : BitVec 8) (s : State),
    ∃ t, t = { s with rdata := some 0#32, diag := s.diag ++ [.guestError] } ∧
      exec (.rdUnmapped30 req) s = .next t ∧ exec (.rdUnmapped34 req) s = .next t ∧
      exec (.rdOutOfRange8C8C req) s = .next t ∧ exec (.rdOutOfRange909C req off) s = .next t ∧
      exec (.rdOutOfRangeA0Bc req off) s = .next t ∧ exec (.rdOutOfRangeC0Fc req off) s = .next t

/-- R175: at every aligned offset a read, of anyone in any state, completes, returns `RegRead(req, off)`, the one table over all offsets (`regRead`), in the
state in which it is made, and changes no element of R10 (R45 D32): only the model's own diagnostic log and count of free values drawn may differ (log entries
4, 8). -/
def Obligations.ReadsAgreeWithTheReadTable : Prop :=
  ∀ (req : Requester) (off : BitVec 8) (s : State), offAligned off = true →
    ∃ dg n, exec (decodeRead req off) s =
      .next { s with rdata := some (regRead device s req off), diag := dg, freeCtr := n }

/-- "the other's target and token" are what a requester can never observe (R258; R192 D11): two states that differ in the OTHER requester's slot only give the
same value to every read, and still differ only there afterwards. -/
def Obligations.ReadsShowNothingOfTheOtherSlot : Prop :=
  ∀ (i : Instr) (req : Requester) (s : State) (v : Slot), isRead i = true → stimulusReq i = some req →
    ∃ t, exec i s = .next t ∧ exec i (s.setSlot req.other v) = .next (t.setSlot req.other v)

/-! ### Writes -/

/-- R205: a write to a read-only information register, of any value by anyone in any state, is a guest error and changes nothing (the diagnostic is the
model's record of it, log entry 4). -/
def Obligations.WritesToInformationRegistersAreIgnored : Prop :=
  ∀ (req : Requester) (w : Word) (s : State),
    ∃ t, t = { s with diag := s.diag ++ [.guestError] } ∧
      exec (.wrLcState req w) s = .next t ∧ exec (.wrLcTransitionCnt req w) s = .next t ∧
      exec (.wrLcIdState req w) s = .next t ∧ exec (.wrHwRevision0 req w) s = .next t ∧
      exec (.wrHwRevision1 req w) s = .next t ∧
      exec (.wrDeviceId0 req w) s = .next t ∧ exec (.wrDeviceId1 req w) s = .next t ∧
      exec (.wrDeviceId2 req w) s = .next t ∧ exec (.wrDeviceId3 req w) s = .next t ∧
      exec (.wrDeviceId4 req w) s = .next t ∧ exec (.wrDeviceId5 req w) s = .next t ∧
      exec (.wrDeviceId6 req w) s = .next t ∧ exec (.wrDeviceId7 req w) s = .next t ∧
      exec (.wrManufState0 req w) s = .next t ∧ exec (.wrManufState1 req w) s = .next t ∧
      exec (.wrManufState2 req w) s = .next t ∧ exec (.wrManufState3 req w) s = .next t ∧
      exec (.wrManufState4 req w) s = .next t ∧ exec (.wrManufState5 req w) s = .next t ∧
      exec (.wrManufState6 req w) s = .next t ∧ exec (.wrManufState7 req w) s = .next t

/-- The other writes that never change anything: STATUS (R181 D29), TRANSITION_REGWEN (R187 D10), the offsets without a register (R210 D36, R211 D32): guest
errors; and ALERT_TEST (R179 D36), which is not even that. -/
def Obligations.WritesWithoutAnyEffectComplete : Prop :=
  ∀ (req : Requester) (off : BitVec 8) (w : Word) (s : State),
    exec (.wrAlertTest req w) s = .next s ∧
    ∃ t, t = { s with diag := s.diag ++ [.guestError] } ∧
      exec (.wrStatus req w) s = .next t ∧ exec (.wrTransitionRegwen req w) s = .next t ∧
      exec (.wrUnmapped30 req w) s = .next t ∧ exec (.wrUnmapped34 req w) s = .next t ∧
      exec (.wrOutOfRange8C8C req w) s = .next t ∧ exec (.wrOutOfRange909C req off w) s = .next t ∧
      exec (.wrOutOfRangeA0Bc req off w) s = .next t ∧ exec (.wrOutOfRangeC0Fc req off w) s = .next t

/-- CLAIM_TRANSITION_IF_REGWEN (R183 D9): a written 1 changes nothing; a written 0 clears the bit for the owner in IDLE and is a guest error otherwise.
LOCK_CLAIM (R63) is the written 0. -/
def Obligations.ClaimEnableWriteFollowsItsRule : Prop :=
  ∀ (req : Requester) (w : Word) (hi : BitVec 31) (s : State),
    (w.getLsbD 0 = true → exec (.wrClaimTransitionIfRegwen req w) s = .next s) ∧
    (s.owner = some req ∧ s.fsm = .idle →
      (w.getLsbD 0 = false → exec (.wrClaimTransitionIfRegwen req w) s = .next { s with claimRegwen := false }) ∧
      exec (.lockClaim req hi) s = .next { s with claimRegwen := false }) ∧
    (¬(s.owner = some req ∧ s.fsm = .idle) →
      (w.getLsbD 0 = false →
        exec (.wrClaimTransitionIfRegwen req w) s = .next { s with diag := s.diag ++ [.guestError] }) ∧
      exec (.lockClaim req hi) s = .next { s with diag := s.diag ++ [.guestError] })

/-- R137, the operation `claim(req)`: a free mutex is taken, and POST_TRANS is re-armed to IDLE then; the owner's own claim is idempotent; the other's claim
fails. -/
def Obligations.ClaimOperationFollowsItsRule : Prop :=
  ∀ (req : Requester) (s : State),
    (s.owner = none →
      Sys2Proof.Machine.claim req s =
        (true, { s with owner := some req, fsm := if s.fsm = .postTrans then .idle else s.fsm })) ∧
    (s.owner = some req → Sys2Proof.Machine.claim req s = (true, s)) ∧
    (s.owner = some req.other → Sys2Proof.Machine.claim req s = (false, s))

/-- CLAIM_TRANSITION_IF (R185, R70 D8; R137, R138 D30, R139 D28), by CLAIM, by RELEASE (R63) and by every write of the register: while the claim write-enable
is 0 a guest error; else 0x96 in bits 7:0 claims (taking a free mutex re-arms POST_TRANS), every other value releases; a failed claim and a release by a
non-owner change nothing. -/
def Obligations.ClaimRegisterWriteFollowsItsRule : Prop :=
  ∀ (req : Requester) (i : Instr) (s : State),
    (s.claimRegwen = false → (∃ hi, i = .claim req hi) ∨ (∃ hi, i = .release req hi) ∨ (∃ w, i = .wrClaimTransitionIf req w) →
      exec i s = .next { s with diag := s.diag ++ [.guestError] }) ∧
    (s.claimRegwen = true → (∃ hi, i = .claim req hi) ∨ (∃ w, i = .wrClaimTransitionIf req w ∧ w.extractLsb' 0 8 = 0x96#8) →
      (s.owner = none →
        exec i s = .next { s with owner := some req, fsm := if s.fsm = .postTrans then .idle else s.fsm }) ∧
      (s.owner ≠ none → exec i s = .next s)) ∧
    (s.claimRegwen = true → (∃ hi, i = .release req hi) ∨ (∃ w, i = .wrClaimTransitionIf req w ∧ w.extractLsb' 0 8 ≠ 0x96#8) →
      (s.owner = some req → exec i s = .next { s with owner := none }) ∧
      (s.owner ≠ some req → exec i s = .next s))

/-- The six gated registers (R177 c, R191 D10; R193, R195, R197, R199 D11; R201 D44), each requester spelled out: stored for the owner in IDLE, in the
writer's own slot, the target's bits 31:30 dropped; a guest error for anyone else and in every other FSM state. -/
def Obligations.GatedWritesFollowTheirRules : Prop :=
  ∀ (w : Word) (s : State),
    (∀ req, s.owner = some req → s.fsm = .idle →
      exec (.wrTransitionCtrl req w) s =
        .next { s with ctrl := { extClockEn := w.getLsbD 0, volatileRawUnlock := w.getLsbD 1 } }) ∧
    (s.owner = some .sw → s.fsm = .idle →
      exec (.wrTransitionToken0 .sw w) s = .next { s with slotSw := { s.slotSw with token0 := w } } ∧
      exec (.wrTransitionToken1 .sw w) s = .next { s with slotSw := { s.slotSw with token1 := w } } ∧
      exec (.wrTransitionToken2 .sw w) s = .next { s with slotSw := { s.slotSw with token2 := w } } ∧
      exec (.wrTransitionToken3 .sw w) s = .next { s with slotSw := { s.slotSw with token3 := w } } ∧
      exec (.wrTransitionTarget .sw w) s = .next { s with slotSw := { s.slotSw with target := w &&& 0x3FFFFFFF#32 } }) ∧
    (s.owner = some .dbg → s.fsm = .idle →
      exec (.wrTransitionToken0 .dbg w) s = .next { s with slotDbg := { s.slotDbg with token0 := w } } ∧
      exec (.wrTransitionToken1 .dbg w) s = .next { s with slotDbg := { s.slotDbg with token1 := w } } ∧
      exec (.wrTransitionToken2 .dbg w) s = .next { s with slotDbg := { s.slotDbg with token2 := w } } ∧
      exec (.wrTransitionToken3 .dbg w) s = .next { s with slotDbg := { s.slotDbg with token3 := w } } ∧
      exec (.wrTransitionTarget .dbg w) s =
        .next { s with slotDbg := { s.slotDbg with target := w &&& 0x3FFFFFFF#32 } }) ∧
    (∀ req, ¬(s.owner = some req ∧ s.fsm = .idle) →
      ∃ t, t = { s with diag := s.diag ++ [.guestError] } ∧
        exec (.wrTransitionCtrl req w) s = .next t ∧ exec (.wrTransitionToken0 req w) s = .next t ∧
        exec (.wrTransitionToken1 req w) s = .next t ∧ exec (.wrTransitionToken2 req w) s = .next t ∧
        exec (.wrTransitionToken3 req w) s = .next t ∧ exec (.wrTransitionTarget req w) s = .next t)

/-- R176: at every aligned offset a write performs `RegWrite(req, off, wdata)`, the one table over all offsets (`regWrite`), whichever constructor its word
decodes to. -/
def Obligations.WritesAgreeWithTheWriteTable : Prop :=
  ∀ (req : Requester) (off : BitVec 8) (w : Word) (s : State), offAligned off = true →
    exec (decodeWrite req off w) s = regWrite device s req off w

/-- R246: the causes in its table (`guestErrorCause`) are exactly those that log a guest error. With such a cause nothing changes but the diagnostic log (the
model's record, log entry 4) and, for a read, the value returned, which is 0; without one, no guest error is logged; the defined no-ops it lists change
nothing at all. -/
def Obligations.GuestErrorsHaveExactlyTheListedCauses : Prop :=
  ∀ (i : Instr) (s : State),
    (guestErrorCause s i = true →
      exec i s = .next { s with
        rdata := if isRead i then some 0#32 else s.rdata
        diag := s.diag ++ [.guestError] }) ∧
    (guestErrorCause s i = false → ∀ t, exec i s = .next t → t.diag.count .guestError = s.diag.count .guestError) ∧
    (∀ req : Requester, s.claimRegwen = true → claimReq i = some req → s.owner = some req.other → exec i s = .next s) ∧
    (∀ req : Requester, s.claimRegwen = true → releaseReq i = some req → s.owner ≠ some req → exec i s = .next s) ∧
    (∀ (req : Requester) (w : Word),
      (w.getLsbD 0 = true → exec (.wrClaimTransitionIfRegwen req w) s = .next s) ∧
      (w.getLsbD 0 = false → exec (.wrTransitionCmd req w) s = .next s) ∧
      exec (.wrAlertTest req w) s = .next s)

/-- A slot is written only by its own requester, while it owns the mutex and the FSM is in IDLE; nothing else but RESET changes it (R14 D11). -/
def Obligations.SlotsAreWrittenOnlyByTheirOwner : Prop :=
  ∀ (i : Instr) (s t : State) (req : Requester), exec i s = .next t → t.slot req ≠ s.slot req →
    i = .reset ∨ (stimulusReq i = some req ∧ s.owner = some req ∧ s.fsm = .idle)

/-- R15: `owner` is written only by claim and release and by reset: a claim takes it only from NONE, a release gives it back only from the releasing
requester. So at most one requester holds the mutex, and no one loses it but by its own release or a reset. -/
def Obligations.OwnerChangesOnlyByClaimReleaseAndReset : Prop :=
  ∀ (i : Instr) (s t : State), exec i s = .next t → t.owner ≠ s.owner →
    (i = .reset ∧ t.owner = none) ∨
    (∃ req, claimReq i = some req ∧ s.owner = none ∧ t.owner = some req) ∨
    (∃ req, releaseReq i = some req ∧ s.owner = some req ∧ t.owner = none)

/-! ### Starting a transition -/

/-- R140, `start(req)`: ignored unless the requester owns the mutex and the FSM is in IDLE; else `xact_req` is latched and the volatile path or CLK_MUX
follows, with the target in the requester's own slot; the reaction ends in IDLE, CNT_PROG or POST_TRANS. -/
def Obligations.StartFollowsItsRule : Prop :=
  ∀ (req : Requester) (s : State),
    (s.owner ≠ some req ∨ s.fsm ≠ .idle → start device req s = .next { s with diag := s.diag ++ [.guestError] }) ∧
    (s.owner = some req → s.fsm = .idle →
      start device req s =
        (if volatileCond (decodeTarget (s.slot req).target) { s with xactReq := req } then
          .next (volatileUnlock req { s with xactReq := req })
        else clkMux device (decodeTarget (s.slot req).target) { s with xactReq := req, fsm := .clkMux }) ∧
      ∀ t, start device req s = .next t → t.fsm = .idle ∨ t.fsm = .cntProg ∨ t.fsm = .postTrans)

/-- The start command as a bus write (R189 D37): bit 0 clear is no command; START (R63) and a write with bit 0 set are `start(req)`; by a non-owner or outside
IDLE it is ignored ("a transition-start call from a non-owner is always rejected", 95 Q2). -/
def Obligations.StartCommandByANonOwnerIsIgnored : Prop :=
  ∀ (req : Requester) (w : Word) (hi : BitVec 31) (s : State),
    (w.getLsbD 0 = false → exec (.wrTransitionCmd req w) s = .next s) ∧
    (w.getLsbD 0 = true → exec (.wrTransitionCmd req w) s = exec (.start req hi) s) ∧
    (s.owner ≠ some req ∨ s.fsm ≠ .idle → exec (.start req hi) s = .next { s with diag := s.diag ++ [.guestError] })

/-- The volatile unlock (R141 D18) by START or the command write: with the override enabled and configured, RAW to TEST_UNLOCKED0, no hashing and no OTP
request; a token equal to the stored hashed value changes the state in memory and stays in IDLE; any other token is a token error. -/
def Obligations.VolatileUnlockFollowsItsRule : Prop :=
  ∀ (req : Requester) (i : Instr) (s : State),
    (∃ hi, i = .start req hi) ∨ (∃ w, i = .wrTransitionCmd req w ∧ w.getLsbD 0 = true) →
    s.owner = some req → s.fsm = .idle → s.ctrl.volatileRawUnlock = true → s.tokens.rawUnlock.valid = true →
    s.lcState = .real .raw → decodeTarget (s.slot req).target = some .testUnlocked0 →
    ((s.slot req).token3 ++ (s.slot req).token2 ++ (s.slot req).token1 ++ (s.slot req).token0 = s.tokens.rawUnlock.hashed →
      exec i s = .next { s with
        xactReq := req
        lcState := .real .testUnlocked0
        volUnlock := true
        status := { s.status with transitionSuccessful := true } }) ∧
    ((s.slot req).token3 ++ (s.slot req).token2 ++ (s.slot req).token1 ++ (s.slot req).token0 ≠ s.tokens.rawUnlock.hashed →
      exec i s = .next { s with
        xactReq := req
        status := { s.status with tokenError := true }
        fsm := .postTrans })

/-- The persistent path's part in the start reaction (R142 D19, R144 D20, R145 D21), by START or the command write, wherever the volatile condition (R141) is
false: a full count is rejected before any OTP request; else the count is spent (24 for a SCRAP target), the pair of the CURRENT state and the NEW count is
requested, and the answer decides between waiting in CNT_PROG and an OTP error. The external clock is requested for an enabled family. -/
def Obligations.PersistentStartFollowsItsRule : Prop :=
  ∀ (req : Requester) (i : Instr) (s : State) (l : LcState) (n : Fin 25),
    (∃ hi, i = .start req hi) ∨ (∃ w, i = .wrTransitionCmd req w ∧ w.getLsbD 0 = true) →
    s.owner = some req → s.fsm = .idle → s.lcState = .real l → s.lcCnt = .count n →
    volatileCond (decodeTarget (s.slot req).target) s = false →
    let sw := s.ctrl.extClockEn && clockFamily (decodeTarget (s.slot req).target)
    let st := { s.status with extClockSwitched := s.status.extClockSwitched || sw }
    let k : Fin 25 := if decodeTarget (s.slot req).target = some .scrap then 24 else n + 1
    let r : Request := .programReq (device.lcStateTable l) (device.lcCntTable k)
    (n = 24 →
      exec i s = .next { s with
        xactReq := req
        clkBypReq := s.clkBypReq || sw
        status := { st with transitionCountError := true }
        fsm := .postTrans }) ∧
    (n < 24 → s.otpAccept = true →
      exec i s = .next { s with
        xactReq := req
        clkBypReq := s.clkBypReq || sw
        status := st
        lcCnt := .count k
        emitted := s.emitted ++ [r]
        otpPending := true
        fsm := .cntProg }) ∧
    (n < 24 → s.otpAccept = false →
      exec i s = .next { s with
        xactReq := req
        clkBypReq := s.clkBypReq || sw
        status := { st with otpError := true }
        lcCnt := .count k
        emitted := s.emitted ++ [r]
        fsm := .postTrans })

/-- R13: the count is in 0 to 24, or CNT_INVALID if the reported string matched no table entry; it is written by the loader and by the counter-increment stage and by nothing else (RESET takes its value away): one more, or 24 for a SCRAP
target, from a count below 24, at every attempt that reaches that stage; between two resets it never decreases. -/
def Obligations.CountIsWrittenOnlyByLoaderAndIncrement : Prop :=
  (∀ (info : OtpInfo) (fr : Bool) (s : State), s.fsm = .reset →
    ((initReaction device info fr s).lcCnt = .cntInvalid ↔ ∀ k : Fin 25, info.cntEnc ≠ device.lcCntTable k)) ∧
  ∀ (i : Instr) (s t : State), exec i s = .next t → i ≠ .reset →
    (t.lcCnt ≠ s.lcCnt →
      (s.fsm = .reset ∧ ∃ info fr, i = .init info fr) ∨
      (∃ req n, commandReq i = some req ∧ s.owner = some req ∧ s.fsm = .idle ∧ s.lcCnt = .count n ∧ n.val < 24 ∧
        t.lcCnt = .count (if decodeTarget (s.slot req).target = some .scrap then 24 else n + 1))) ∧
    (∀ req n, commandReq i = some req → s.owner = some req → s.fsm = .idle →
      volatileCond (decodeTarget (s.slot req).target) s = false → s.lcCnt = .count n → n.val < 24 →
      t.lcCnt = .count (if decodeTarget (s.slot req).target = some .scrap then 24 else n + 1)) ∧
    (s.fsm ≠ .reset → s.lcCnt.le t.lcCnt = true)

/-! ### Completions -/

/-- A completion nobody awaits changes nothing (R158 D25, R105 D24). An acknowledge that arrives after an escalation only ends the wait; an awaited one goes
to the stage that waits for it, with the wait ended; in any other FSM state it is an invariant violation (R146 D25). A HASH_RSP whose `done` contradicts the
adapter's state is outside the engine's contract and is refused (R108 D24, 93 U5; log entry 13). -/
def Obligations.CompletionsGoToTheStageThatWaits : Prop :=
  ∀ (ok : Bool) (share0 share1 : Token) (done : Bool) (s : State),
    (s.otpPending = false → exec (.otpAck ok) s = .next s) ∧
    (s.otpPending = true →
      (s.fsm = .escalate → exec (.otpAck ok) s = .next { s with otpPending := false }) ∧
      (s.fsm = .cntProg → exec (.otpAck ok) s = ackCntProg device ok { s with otpPending := false }) ∧
      (s.fsm = .transProg → exec (.otpAck ok) s = ackTransProg ok { s with otpPending := false }) ∧
      (s.fsm ≠ .cntProg → s.fsm ≠ .transProg → s.fsm ≠ .escalate → exec (.otpAck ok) s = .fault .ackOutOfPlace)) ∧
    (s.hashState = .hIdle → exec (.hashRsp share0 share1 done) s = .next s) ∧
    (s.hashState = .hFirstSent → done = true → exec (.hashRsp share0 share1 done) s = .refused .hashDoneMismatch) ∧
    (s.hashState = .hSecondSent → done = false → exec (.hashRsp share0 share1 done) s = .refused .hashDoneMismatch)

/-- R147 and R148, the operations: a NACK of the count is an OTP error; after an acknowledge the transition is checked: a pair the matrix forbids (or a
malformed target) is a transition error; else the requester's token is hashed. R101, `request_hash(req)`: the first half is sent, not final, and the requester
is latched; with a request outstanding it is an invariant violation, a fault of the run. -/
def Obligations.CountAckAndTransitionCheckFollowTheirRules : Prop :=
  ∀ s : State,
    ackCntProg device false s = .next { s with status := { s.status with otpError := true }, fsm := .postTrans } ∧
    (requiredTokenFor device.transMatrix s.lcState s.tgt = .invalid →
      ackCntProg device true s =
        .next { s with status := { s.status with transitionError := true }, fsm := .postTrans }) ∧
    (requiredTokenFor device.transMatrix s.lcState s.tgt ≠ .invalid →
      ackCntProg device true s = requestHash device s.xactReq { s with fsm := .tokenHash }) ∧
    (∀ (c : Config) (req : Requester),
      (s.hashState = .hIdle →
        requestHash c req s = .next { s with
          hashReq := req
          hashState := .hFirstSent
          emitted := s.emitted ++ [.hashRequest c.kmacAppId (chunk ((s.slot req).half 0)) false] }) ∧
      (s.hashState ≠ .hIdle → requestHash c req s = .fault .secondHashRequest))

/-- The acknowledge of the state commit (R146 D25, R152 D27, R155 D17): committed: the target is the state, success is reported, and a SCRAP target escalates;
a NACK is an OTP error with the state unchanged. -/
def Obligations.StateCommitAckFollowsItsRule : Prop :=
  ∀ (s : State) (l : LcState), s.otpPending = true → s.fsm = .transProg → s.tgt = some l →
    exec (.otpAck true) s = .next { s with
      otpPending := false
      lcState := .real l
      status := { s.status with transitionSuccessful := true }
      fsm := if l = .scrap then .escalate else .postTrans } ∧
    exec (.otpAck false) s = .next { s with
      otpPending := false
      status := { s.status with otpError := true }
      fsm := .postTrans }

/-- R106: the intermediate response sends the second half, final, of the token whose first half was sent; its shares are ignored and the FSM does not move.
R107: the final response stores the exclusive-or of the two shares of each half as the digest and frees the adapter; in TOKEN_HASH, and only there, the FSM
resumes with that digest. -/
def Obligations.HashResponsesFollowTheirRules : Prop :=
  ∀ (share0 share1 : Token) (s : State),
    (s.hashState = .hFirstSent →
      exec (.hashRsp share0 share1 false) s = .next { s with
        hashState := .hSecondSent
        emitted := s.emitted ++ [.hashRequest device.kmacAppId (chunk ((s.slot s.hashReq).half 1)) true] }) ∧
    (s.hashState = .hSecondSent →
      ∃ d : Token,
        (∀ j : Nat, j < 128 → d.getLsbD j = (share0.getLsbD j ^^ share1.getLsbD j)) ∧
        (s.fsm ≠ .tokenHash →
          exec (.hashRsp share0 share1 true) s = .next { s with digest := d, hashState := .hIdle }) ∧
        (s.fsm = .tokenHash →
          exec (.hashRsp share0 share1 true) s = resumeFromHash device { s with digest := d, hashState := .hIdle }))

/-- R150, `ResumeFromHash()`: a pair without a kind is a transition error, a digest that does not match the kind's entry a token error (the diagnostic of R98
is logged if the entry is unset), else TRANS_PROG is entered. -/
def Obligations.TokenCheckFollowsItsRule : Prop :=
  ∀ (s : State) (k : TokenKind), requiredTokenFor device.transMatrix s.lcState s.tgt = k →
    (k = .invalid →
      resumeFromHash device s =
        .next { s with status := { s.status with transitionError := true }, fsm := .postTrans }) ∧
    (k ≠ .invalid → matchToken s.tokens s.digest k = false →
      resumeFromHash device s = .next { s with
        status := { s.status with tokenError := true }
        fsm := .postTrans
        diag := if s.tokens.usable k then s.diag else s.diag ++ [.unsetTokenKind] }) ∧
    (k ≠ .invalid → matchToken s.tokens s.digest k = true →
      resumeFromHash device s = transProg device { s with fsm := .transProg })

/-- HASH_RSP with the right digest (R107, R150, R151 D21): the state commit is requested with the pair of the TARGET and the count already programmed; the
backend's answer decides between waiting in TRANS_PROG and an OTP error. -/
def Obligations.MatchingDigestRequestsTheStateCommit : Prop :=
  ∀ (share0 share1 : Token) (s : State) (f l : LcState) (n : Fin 25) (e : TokenEntry),
    s.fsm = .tokenHash → s.hashState = .hSecondSent → s.lcState = .real f → s.tgt = some l → s.lcCnt = .count n →
    s.tokens.entry (device.transMatrix f l) = some e → e.valid = true → share0 ^^^ share1 = e.hashed →
    (s.otpAccept = true →
      exec (.hashRsp share0 share1 true) s = .next { s with
        digest := e.hashed
        hashState := .hIdle
        emitted := s.emitted ++ [.programReq (device.lcStateTable l) (device.lcCntTable n)]
        otpPending := true
        fsm := .transProg }) ∧
    (s.otpAccept = false →
      exec (.hashRsp share0 share1 true) s = .next { s with
        digest := e.hashed
        hashState := .hIdle
        emitted := s.emitted ++ [.programReq (device.lcStateTable l) (device.lcCntTable n)]
        status := { s.status with otpError := true }
        fsm := .postTrans })

/-! ### Initialization, reset, escalation -/

/-- INIT (R115, R129, R130 D12, D17), on every configuration: in RESET the four elements and the OTP-loaded tokens take what the loader found, `initialized`
is set, and the FSM goes to INVALID with STATE_ERROR if any check failed, to SCRAP for a scrapped device, to IDLE otherwise; outside RESET nothing happens. The
machine's INIT is that reaction on its own device. On a well-formed configuration a string of another word count than the configuration's is no table entry
(R118, R119): it is loaded as INVALID and the checks find it (that INIT takes such a string at all is the model's choice: log entry 30). -/
def Obligations.InitFollowsItsRule : Prop :=
  (∀ (info : OtpInfo) (fr : Bool) (s : State), exec (.init info fr) s = .next (initReaction device info fr s)) ∧
  (∀ (c : Config) (info : OtpInfo) (fr : Bool) (s : State),
    (s.fsm ≠ .reset → initReaction c info fr s = s) ∧
    (s.fsm = .reset →
      let r := loadInitialState c info fr
      let loaded : State := { s with
        lcState := r.st, lcCnt := r.cnt, idState := r.ids, initErr := r.err
        tokens := { s.tokens with testUnlock := info.testUnlock, testExit := info.testExit, rma := info.rma } }
      (r.err ≠ 0#6 →
        initReaction c info fr s =
          { loaded with status := { s.status with initialized := true, stateError := true }, fsm := .invalid }) ∧
      (r.err = 0#6 → r.st = .real .scrap →
        initReaction c info fr s = { loaded with status := { s.status with initialized := true }, fsm := .scrap }) ∧
      (r.err = 0#6 → r.st ≠ .real .scrap →
        initReaction c info fr s = { loaded with status := { s.status with initialized := true }, fsm := .idle }))) ∧
  ∀ (c : Config) (info : OtpInfo) (fr : Bool), c.WellFormed →
    let r := loadInitialState c info fr
    (info.stateEnc.length ≠ c.lcStateWords → fr = false → r.st = .lcsInvalid ∧ r.err ≠ 0#6) ∧
    (info.cntEnc.length ≠ c.lcCntWords → r.cnt = .cntInvalid ∧ r.err ≠ 0#6)

/-- R128: the loader copies the OTP's tokens and validity bits into the Token Store unchanged, whatever the checks find; ZERO and RAW_UNLOCK are not touched.
-/
def Obligations.InitLoadsTheTokensUnchanged : Prop :=
  ∀ (info : OtpInfo) (fr : Bool) (s : State), s.fsm = .reset →
    ∃ t, exec (.init info fr) s = .next t ∧
      t.tokens.testUnlock = info.testUnlock ∧ t.tokens.testExit = info.testExit ∧ t.tokens.rma = info.rma ∧
      t.tokens.zero = s.tokens.zero ∧ t.tokens.rawUnlock = s.tokens.rawUnlock

/-- R118 and R119: on a well-formed configuration a string decodes to a state (a count) exactly if it EQUALS that entry of the table; what equals no entry is
LCS_INVALID (CNT_INVALID). -/
def Obligations.LoaderDecodesByWholeStringEquality : Prop :=
  ∀ (c : Config) (e : EncString), c.WellFormed →
    (∀ l, decodeState c e = .real l ↔ e = c.lcStateTable l) ∧
    (decodeState c e = .lcsInvalid ↔ ∀ l, e ≠ c.lcStateTable l) ∧
    (∀ k, decodeCnt c e = .count k ↔ e = c.lcCntTable k) ∧
    (decodeCnt c e = .cntInvalid ↔ ∀ k, e ≠ c.lcCntTable k)

/-- The six checks, each its own bit (R121 to R127 D13; the status R120 D7): "state invalid", "vendor-test-unknown", "count exceeded", "corrupted secret-valid
flag", "non-RAW-state-with-zero-count", "personalized-without-expected-secrets". -/
def Obligations.LoaderChecksAreIndependentBits : Prop :=
  ∀ (c : Config) (info : OtpInfo) (fr : Bool), c.WellFormed →
    let r := loadInitialState c info fr
    (r.err.getLsbD 0 = true ↔ (fr = false ∧ ∀ l, info.stateEnc ≠ c.lcStateTable l) ∨ info.lcValid = false) ∧
    (r.err.getLsbD 1 = true ↔ c.vendorTestUnknown info = true) ∧
    (r.err.getLsbD 2 = true ↔ ∀ k, info.cntEnc ≠ c.lcCntTable k) ∧
    (r.err.getLsbD 3 = true ↔ info.secretValid = .secretCorrupt) ∧
    (r.err.getLsbD 4 = true ↔
      fr = false ∧ (∃ l, l ≠ .raw ∧ info.stateEnc = c.lcStateTable l) ∧ info.cntEnc = c.lcCntTable 0) ∧
    (r.err.getLsbD 5 = true ↔
      c.personalizedWithoutSecrets r.ids r.st (info.testUnlock.valid, info.testExit.valid, info.rma.valid) = true) ∧
    (r.ids = .personalized ↔ info.secretValid = .secretTrue) ∧
    (r.ids = .blank ↔ info.secretValid = .secretFalse) ∧
    (r.ids = .idInvalid ↔ info.secretValid = .secretCorrupt)

/-- RESET (R270 D34) in every state: every element to which the rule gives a value has it; the construction-time entries of the Token Store survive (R32). Of
the elements to which the rule gives "no value" nothing is said (log entries 6, 7). -/
def Obligations.ResetGivesEveryElementItsValue : Prop :=
  ∀ s : State, ∃ t, exec .reset s = .next t ∧
    t.fsm = .reset ∧ t.owner = none ∧
    t.slotSw = ⟨0, 0, 0, 0, 0⟩ ∧ t.slotDbg = ⟨0, 0, 0, 0, 0⟩ ∧
    t.ctrl = ⟨false, false⟩ ∧ t.claimRegwen = true ∧
    t.status = ⟨false, false, false, false, false, false, false, false⟩ ∧
    t.hashState = .hIdle ∧ t.otpPending = false ∧ t.volUnlock = false ∧ t.initErr = 0#6 ∧ t.clkBypReq = false ∧
    t.tokens.testUnlock.valid = false ∧ t.tokens.testExit.valid = false ∧ t.tokens.rma.valid = false ∧
    t.tokens.zero = s.tokens.zero ∧ t.tokens.rawUnlock = s.tokens.rawUnlock ∧
    t.emitted = s.emitted ∧ t.rdata = s.rdata

/-- The machine right after reset (R32 D34; R91, R92 D40): the spec's values, and the construction-time tokens: `LcHash(0)`, and the raw-unlock token's
hash where that token is configured. -/
def Obligations.MachineAfterResetIsTheSpecs : Prop :=
  State.reset.fsm = .reset ∧ State.reset.owner = none ∧ State.reset.claimRegwen = true ∧
  State.reset.status = ⟨false, false, false, false, false, false, false, false⟩ ∧
  State.reset.slotSw = ⟨0, 0, 0, 0, 0⟩ ∧ State.reset.slotDbg = ⟨0, 0, 0, 0, 0⟩ ∧
  State.reset.ctrl = ⟨false, false⟩ ∧ State.reset.hashState = .hIdle ∧ State.reset.otpPending = false ∧
  State.reset.volUnlock = false ∧ State.reset.initErr = 0#6 ∧ State.reset.clkBypReq = false ∧
  State.reset.tokens.zero = ⟨device.lcHash 0#128, true⟩ ∧
  (∀ t, device.rawUnlockToken = some t → State.reset.tokens.rawUnlock = ⟨device.lcHash t, true⟩) ∧
  (device.rawUnlockToken = none → State.reset.tokens.rawUnlock.valid = false) ∧
  State.reset.tokens.testUnlock.valid = false ∧ State.reset.tokens.testExit.valid = false ∧
  State.reset.tokens.rma.valid = false

/-- ESCALATE (R154 D26) from every state: only `fsm` is written. In ESCALATE the lines are ESCALATE_EN alone (R252, R232 D33), LC_STATE reads 0x2D6B5AD6 and
STATUS does not show READY; nothing but RESET leaves it. -/
def Obligations.EscalationFollowsItsRule : Prop :=
  (∀ s : State, exec .escalate s = .next { s with fsm := .escalate }) ∧
  (∀ s : State, s.fsm = .escalate →
    s.lines = 0x0040#13 ∧
    (∀ req, exec (.rdLcState req) s = .next { s with rdata := some 0x2D6B5AD6#32 }) ∧
    s.statusValue.getLsbD 1 = false ∧
    ∀ i t, i ≠ .reset → exec i s = .next t → t.fsm = .escalate)

/-- R157: SCRAP, ESCALATE and INVALID absorb every stimulus but RESET: the FSM stays (ESCALATE moves it to ESCALATE), a start is ignored, the gated registers
and the life-cycle state, count and tokens keep their values; claim and release still change the owner, but nothing is re-armed. -/
def Obligations.TerminalStatesAreLeftOnlyByReset : Prop :=
  ∀ (i : Instr) (s t : State), s.fsm.terminal = true → i ≠ .reset → exec i s = .next t →
    t.fsm = (if i = .escalate then .escalate else s.fsm) ∧
    (∀ req, commandReq i = some req → t = { s with diag := s.diag ++ [.guestError] }) ∧
    t.slotSw = s.slotSw ∧ t.slotDbg = s.slotDbg ∧ t.ctrl = s.ctrl ∧ t.claimRegwen = s.claimRegwen ∧
    t.lcState = s.lcState ∧ t.lcCnt = s.lcCnt ∧ t.idState = s.idState ∧ t.tokens = s.tokens ∧ t.status = s.status ∧
    (∀ req, claimReq i = some req → s.claimRegwen = true → s.owner = none → t.owner = some req) ∧
    (∀ req, releaseReq i = some req → s.claimRegwen = true → s.owner = some req → t.owner = none)

/-! ### Errors -/

/-- R247: an operational error writes its status bit and `fsm`, and nothing else; it is raised only in the reaction to an accepted start, to an OTP_ACK or to
the final HASH_RSP, never for a bus access that was rejected. -/
def Obligations.OperationalErrorWritesOneBitAndTheFsm : Prop :=
  (∀ s : State,
    raiseOp .transitionCount s = { s with status := { s.status with transitionCountError := true }, fsm := .postTrans } ∧
    raiseOp .transition s = { s with status := { s.status with transitionError := true }, fsm := .postTrans } ∧
    raiseOp .token s = { s with status := { s.status with tokenError := true }, fsm := .postTrans } ∧
    raiseOp .otp s = { s with status := { s.status with otpError := true }, fsm := .postTrans }) ∧
  (∀ (i : Instr) (s t : State) (e : OpErr), exec i s = .next t → s.status ≠ s.status.withError e → t.status = t.status.withError e →
    guestErrorCause s i = false ∧
    ((∃ req, commandReq i = some req ∧ s.owner = some req ∧ s.fsm = .idle) ∨ (∃ ok, i = .otpAck ok) ∨
      (∃ a b, i = .hashRsp a b true)))

/-- R248: the four errors have STATUS bits 4, 5, 6, 8; an error bit is set only by its listed causes, and the attempt then ends in POST_TRANS; success is reported only by a volatile unlock or a committed
target, and `state_error` is set only at initialization. -/
def Obligations.ErrorBitsHaveOnlyTheirListedCauses : Prop :=
  (∀ s : State,
    s.statusValue.getLsbD 4 = s.status.transitionCountError ∧ s.statusValue.getLsbD 5 = s.status.transitionError ∧
    s.statusValue.getLsbD 6 = s.status.tokenError ∧ s.statusValue.getLsbD 8 = s.status.otpError ∧
    s.statusValue.getLsbD 3 = s.status.transitionSuccessful ∧ s.statusValue.getLsbD 9 = s.status.stateError) ∧
  ∀ (i : Instr) (s t : State), exec i s = .next t →
    (s.status.transitionCountError = false → t.status.transitionCountError = true →
      t.fsm = .postTrans ∧ ∃ req, commandReq i = some req ∧ s.owner = some req ∧ s.fsm = .idle ∧ s.lcCnt = .count 24) ∧
    (s.status.transitionError = false → t.status.transitionError = true →
      t.fsm = .postTrans ∧ requiredTokenFor device.transMatrix s.lcState s.tgt = .invalid ∧
      ((i = .otpAck true ∧ s.fsm = .cntProg ∧ s.otpPending = true) ∨
       (s.fsm = .tokenHash ∧ s.hashState = .hSecondSent ∧ ∃ a b, i = .hashRsp a b true))) ∧
    (s.status.tokenError = false → t.status.tokenError = true →
      t.fsm = .postTrans ∧
      ((∃ req, commandReq i = some req ∧ s.owner = some req ∧ s.fsm = .idle ∧
          volatileCond (decodeTarget (s.slot req).target) s = true ∧
          matchToken s.tokens (s.slot req).assembled .rawUnlock = false) ∨
       (s.fsm = .tokenHash ∧ s.hashState = .hSecondSent ∧ ∃ a b, i = .hashRsp a b true ∧
          matchToken s.tokens (recombine a b) (requiredTokenFor device.transMatrix s.lcState s.tgt) = false))) ∧
    (s.status.otpError = false → t.status.otpError = true →
      t.fsm = .postTrans ∧
      ((∃ req, commandReq i = some req ∧ s.owner = some req ∧ s.fsm = .idle ∧ s.otpAccept = false) ∨
       (i = .otpAck false ∧ s.otpPending = true ∧ (s.fsm = .cntProg ∨ s.fsm = .transProg)) ∨
       (s.fsm = .tokenHash ∧ s.hashState = .hSecondSent ∧ s.otpAccept = false ∧ ∃ a b, i = .hashRsp a b true))) ∧
    (s.status.transitionSuccessful = false → t.status.transitionSuccessful = true →
      (t.fsm = .idle ∧ ∃ req, commandReq i = some req ∧ s.owner = some req ∧ s.fsm = .idle ∧
          volatileCond (decodeTarget (s.slot req).target) s = true) ∨
      (i = .otpAck true ∧ s.fsm = .transProg ∧ s.otpPending = true)) ∧
    (s.status.stateError = false → t.status.stateError = true →
      s.fsm = .reset ∧ t.fsm = .invalid ∧ t.initErr ≠ 0#6 ∧ ∃ info fr, i = .init info fr)

/-- A status bit that is 1 stays 1, the claim write-enable that is 0 stays 0, and the clock request and the volatile flag stay, until RESET (R18 D29; R31
items 7 and 8; R27 D19; R25 D18). -/
def Obligations.StickyBitsStayUntilReset : Prop :=
  ∀ (i : Instr) (s t : State), i ≠ .reset → exec i s = .next t →
    statusLe s.status t.status = true ∧ (s.claimRegwen = false → t.claimRegwen = false) ∧
    (s.clkBypReq = true → t.clkBypReq = true) ∧ (s.volUnlock = true → t.volUnlock = true)

/-! ### The transition graph -/

/-- The FSM moves only along the arrows of R135, each on its own stimulus, the transient states collapsed into the reaction that passes through them (R136
D31): `fsmMove`. -/
def Obligations.FsmMovesOnlyAlongItsGraph : Prop :=
  ∀ (i : Instr) (s t : State), exec i s = .next t →
    fsmMove i s.fsm t.fsm = true

/-- R276: from CNT_PROG, TOKEN_HASH and TRANS_PROG the only ways out are the corresponding completion, ESCALATE and RESET; releasing, claiming or writing any
register neither stops the transition nor changes its operands. ESCALATE does not withdraw the requests already emitted. -/
def Obligations.TransitionsInFlightAreNotCancelled : Prop :=
  ∀ (i : Instr) (s t : State), s.fsm = .cntProg ∨ s.fsm = .tokenHash ∨ s.fsm = .transProg → exec i s = .next t →
    (t.fsm ≠ s.fsm →
      i = .reset ∨ i = .escalate ∨
      (s.fsm = .tokenHash ∧ s.hashState = .hSecondSent ∧ ∃ a b, i = .hashRsp a b true) ∨
      (s.fsm ≠ .tokenHash ∧ s.otpPending = true ∧ ∃ ok, i = .otpAck ok)) ∧
    ((stimulusReq i).isSome ∨ i = .escalate →
      t.xactReq = s.xactReq ∧ t.hashReq = s.hashReq ∧ t.slotSw = s.slotSw ∧ t.slotDbg = s.slotDbg ∧ t.ctrl = s.ctrl ∧
      t.lcState = s.lcState ∧ t.lcCnt = s.lcCnt ∧ t.otpPending = s.otpPending ∧ t.hashState = s.hashState)

/-- The first testable property of the source (95 Q1): in every state that meets the invariant, the life-cycle state changes by a transition only to a state
the matrix allows from the current one; otherwise only RESET and INIT write it. -/
def Obligations.LcStateChangesOnlyToAllowedStates : Prop :=
  ∀ (i : Instr) (s t : State), Inv s → exec i s = .next t → t.lcState ≠ s.lcState →
    i = .reset ∨ (s.fsm = .reset ∧ ∃ info fr, i = .init info fr) ∨
    (∃ f l, s.lcState = .real f ∧ t.lcState = .real l ∧ device.transMatrix f l ≠ .invalid)

/-- A correct token in a well-behaved environment commits the transition (95 S1; R110 D40 with the engine's good behaviour as a premise on the shares; R140 to
R152). From IDLE, for the owner of the mutex, a target the matrix allows with a kind whose entry is valid, a count that is not full and no volatile unlock:
START, the acknowledge, the two hash responses and the acknowledge end with the target as the state, one count spent (all for SCRAP), success reported, and
the FSM in POST_TRANS (ESCALATE for SCRAP). -/
def Obligations.CorrectTokenCommitsTheTransition : Prop :=
  ∀ (s : State) (req : Requester) (hi : BitVec 31) (a b c d : Token) (f l : LcState) (n : Fin 25) (e : TokenEntry)
    (acc : Bool) (rest : List Input),
    s.inputs =
      ⟨encode (.start req hi), true⟩ :: ⟨encode (.otpAck true), acc⟩ :: ⟨encode (.hashRsp a b false), acc⟩ ::
        ⟨encode (.hashRsp c d true), true⟩ :: ⟨encode (.otpAck true), acc⟩ :: rest →
    s.fsm = .idle → s.owner = some req → s.hashState = .hIdle → s.lcState = .real f → s.lcCnt = .count n → n.val < 24 →
    s.ctrl.volatileRawUnlock = false → decodeTarget (s.slot req).target = some l →
    s.tokens.entry (device.transMatrix f l) = some e → e.valid = true → c ^^^ d = e.hashed →
    ∃ s1 s2 s3 s4 t : State,
      step s = .next s1 ∧ step s1 = .next s2 ∧ step s2 = .next s3 ∧ step s3 = .next s4 ∧ step s4 = .next t ∧
      s1.fsm = .cntProg ∧ s2.fsm = .tokenHash ∧ s3.fsm = .tokenHash ∧ s4.fsm = .transProg ∧
      t.lcState = .real l ∧ t.lcCnt = .count (if l = .scrap then 24 else n + 1) ∧
      t.status.transitionSuccessful = true ∧ t.fsm = (if l = .scrap then .escalate else .postTrans) ∧
      t.otpPending = false ∧ t.hashState = .hIdle ∧ t.digest = e.hashed ∧
      t.owner = some req ∧ t.slotSw = s.slotSw ∧ t.slotDbg = s.slotDbg ∧ t.inputs = rest

/-! ### The Token Store, the encodings, the lines -/

/-- R94: the matrix decides for two real states; anything else is INVALID without consulting it. R97: a token matches exactly if the kind has an entry, its
validity bit is set and both halves are equal, that is, all 128 bits. -/
def Obligations.TokenStoreLookupsFollowTheirRules : Prop :=
  (∀ (m : LcState → LcState → TokenKind) (f t : LcState) (tgt : Option LcState),
    requiredTokenFor m (.real f) (some t) = m f t ∧
    requiredTokenFor m (.real f) none = .invalid ∧
    requiredTokenFor m .lcsInvalid tgt = .invalid) ∧
  (∀ (ts : TokenStore) (d : Token) (k : TokenKind),
    (matchToken ts d k = true ↔ k ≠ .invalid ∧ ∃ e, ts.entry k = some e ∧ e.valid = true ∧ d = e.hashed) ∧
    (k = .invalid → ts.entry k = none) ∧ (k ≠ .invalid → ∃ e, ts.entry k = some e))

/-- A stored target decodes to a real state exactly if its bits 29:0 are that state's register encoding, the index repeated six times (R66, R67 D5); the
synthetic values decode to none. -/
def Obligations.TargetDecodeInvertsTheEncoding : Prop :=
  ∀ (v : Word) (l : LcState),
    (decodeTarget v = some l ↔ v.extractLsb' 0 30 = BitVec.ofNat 30 (l.idx * 0x02108421)) ∧
    encIdx l = BitVec.ofNat 32 (l.idx * 0x02108421)

/-- The sixteen bytes sent to the hash engine are the four token words in increasing significance (R71, R103 D23): byte 0 of word 0 first, byte 3 of word 3
last. -/
def Obligations.HashChunksAreTheTokenBytesInOrder : Prop :=
  ∀ v : Slot,
    chunk (v.half 0) ++ chunk (v.half 1) =
      [v.token0, v.token1, v.token2, v.token3].flatMap (fun w =>
        [w.extractLsb' 0 8, w.extractLsb' 8 8, w.extractLsb' 16 8, w.extractLsb' 24 8])

/-- The lines are a function of `fsm`, `lc_state` and `id_state` alone (R28, R231), in RESET of nothing, and in the terminal states ESCALATE_EN and no other
(R232 D33). -/
def Obligations.LinesDependOnlyOnTheThreeInputs : Prop :=
  (∀ s t : State, t.fsm = s.fsm → t.lcState = s.lcState → t.idState = s.idState → t.lines = s.lines) ∧
  (∀ s t : State, s.fsm = .reset → t.fsm = .reset → t.lines = s.lines) ∧
  (∀ (s : State) (x : Line), s.fsm.terminal = true → s.line x = (x == .escalateEn))

/-! ### The invariant -/

/-- The two requesters are symmetric (R258 "no rule prefers SW over DBG or the reverse"): exchanging them in the state and in the stimulus exchanges them in
the outcome. RESET is left out: to `hash_req` and `xact_req` it gives "no value", where the model names one (log entry 7). -/
def Obligations.TheTwoRequestersAreSymmetric : Prop :=
  ∀ s : State,
    (∀ req off, exec (decodeRead req.other off) (swapRequesters s) = swapResult (exec (decodeRead req off) s)) ∧
    (∀ req off w, exec (decodeWrite req.other off w) (swapRequesters s) = swapResult (exec (decodeWrite req off w) s)) ∧
    (∀ info fr, exec (.init info fr) (swapRequesters s) = swapResult (exec (.init info fr) s)) ∧
    (∀ ok, exec (.otpAck ok) (swapRequesters s) = swapResult (exec (.otpAck ok) s)) ∧
    (∀ a b dn, exec (.hashRsp a b dn) (swapRequesters s) = swapResult (exec (.hashRsp a b dn) s)) ∧
    exec .escalate (swapRequesters s) = swapResult (exec .escalate s)

/-- The machine right after reset meets the invariant `Inv` (R31 and what makes it inductive). -/
def Obligations.MachineAfterResetMeetsInv : Prop := Inv State.reset

/-- Every step keeps the invariant, from EVERY state that meets it: R31 items 1 to 4, with the rules that make them inductive (R31 marks each item as
derived). -/
def Obligations.EveryStepKeepsInv : Prop :=
  ∀ s t : State, Inv s → step s = .next t → Inv t

/-- From a state that meets the invariant no step is a fault: the violations of R249 are unreachable ("a model proves these unreachable"), and so are the
model's own faults (log entry 10). -/
def Obligations.StepsFromInvariantStatesNeverFault : Prop :=
  ∀ (s : State) (f : Fault), Inv s → step s ≠ .fault f

/-- From a state that meets the invariant every stimulus that the environment's contract lets arrive (R48, R104, R272; the machine does not rest on it, log
entry 16) completes. -/
def Obligations.ContractStimuliComplete : Prop :=
  ∀ (i : Instr) (s : State), Inv s → contractAllows s i = true → ∃ t, exec i s = .next t

end
end

