-- ==== Sys2Proof/Laws/State.lean ====
section
/-! SUPPORT. One lemma per field per update of State, true by unfolding the update once: later proofs cite these (simp does) and unfold no record update. -/

namespace Sys2Proof.Machine

@[simp] theorem reply_fsm (s : State) (v : Word) : (s.reply v).fsm = s.fsm := rfl
@[simp] theorem reply_lcState (s : State) (v : Word) : (s.reply v).lcState = s.lcState := rfl
@[simp] theorem reply_lcCnt (s : State) (v : Word) : (s.reply v).lcCnt = s.lcCnt := rfl
@[simp] theorem reply_slotSw (s : State) (v : Word) : (s.reply v).slotSw = s.slotSw := rfl
@[simp] theorem reply_slotDbg (s : State) (v : Word) : (s.reply v).slotDbg = s.slotDbg := rfl
@[simp] theorem reply_owner (s : State) (v : Word) : (s.reply v).owner = s.owner := rfl
@[simp] theorem reply_ctrl (s : State) (v : Word) : (s.reply v).ctrl = s.ctrl := rfl
@[simp] theorem reply_claimRegwen (s : State) (v : Word) : (s.reply v).claimRegwen = s.claimRegwen := rfl
@[simp] theorem reply_status (s : State) (v : Word) : (s.reply v).status = s.status := rfl
@[simp] theorem reply_idState (s : State) (v : Word) : (s.reply v).idState = s.idState := rfl
@[simp] theorem reply_tokens (s : State) (v : Word) : (s.reply v).tokens = s.tokens := rfl
@[simp] theorem reply_hashState (s : State) (v : Word) : (s.reply v).hashState = s.hashState := rfl
@[simp] theorem reply_hashReq (s : State) (v : Word) : (s.reply v).hashReq = s.hashReq := rfl
@[simp] theorem reply_digest (s : State) (v : Word) : (s.reply v).digest = s.digest := rfl
@[simp] theorem reply_otpPending (s : State) (v : Word) : (s.reply v).otpPending = s.otpPending := rfl
@[simp] theorem reply_xactReq (s : State) (v : Word) : (s.reply v).xactReq = s.xactReq := rfl
@[simp] theorem reply_volUnlock (s : State) (v : Word) : (s.reply v).volUnlock = s.volUnlock := rfl
@[simp] theorem reply_initErr (s : State) (v : Word) : (s.reply v).initErr = s.initErr := rfl
@[simp] theorem reply_clkBypReq (s : State) (v : Word) : (s.reply v).clkBypReq = s.clkBypReq := rfl
@[simp] theorem reply_inputs (s : State) (v : Word) : (s.reply v).inputs = s.inputs := rfl
@[simp] theorem reply_otpAccept (s : State) (v : Word) : (s.reply v).otpAccept = s.otpAccept := rfl
@[simp] theorem reply_rdata (s : State) (v : Word) : (s.reply v).rdata = some v := rfl
@[simp] theorem reply_emitted (s : State) (v : Word) : (s.reply v).emitted = s.emitted := rfl
@[simp] theorem reply_diag (s : State) (v : Word) : (s.reply v).diag = s.diag := rfl
@[simp] theorem reply_freeCtr (s : State) (v : Word) : (s.reply v).freeCtr = s.freeCtr := rfl

@[simp] theorem emit_fsm (s : State) (r : Request) : (s.emit r).fsm = s.fsm := rfl
@[simp] theorem emit_lcState (s : State) (r : Request) : (s.emit r).lcState = s.lcState := rfl
@[simp] theorem emit_lcCnt (s : State) (r : Request) : (s.emit r).lcCnt = s.lcCnt := rfl
@[simp] theorem emit_slotSw (s : State) (r : Request) : (s.emit r).slotSw = s.slotSw := rfl
@[simp] theorem emit_slotDbg (s : State) (r : Request) : (s.emit r).slotDbg = s.slotDbg := rfl
@[simp] theorem emit_owner (s : State) (r : Request) : (s.emit r).owner = s.owner := rfl
@[simp] theorem emit_ctrl (s : State) (r : Request) : (s.emit r).ctrl = s.ctrl := rfl
@[simp] theorem emit_claimRegwen (s : State) (r : Request) : (s.emit r).claimRegwen = s.claimRegwen := rfl
@[simp] theorem emit_status (s : State) (r : Request) : (s.emit r).status = s.status := rfl
@[simp] theorem emit_idState (s : State) (r : Request) : (s.emit r).idState = s.idState := rfl
@[simp] theorem emit_tokens (s : State) (r : Request) : (s.emit r).tokens = s.tokens := rfl
@[simp] theorem emit_hashState (s : State) (r : Request) : (s.emit r).hashState = s.hashState := rfl
@[simp] theorem emit_hashReq (s : State) (r : Request) : (s.emit r).hashReq = s.hashReq := rfl
@[simp] theorem emit_digest (s : State) (r : Request) : (s.emit r).digest = s.digest := rfl
@[simp] theorem emit_otpPending (s : State) (r : Request) : (s.emit r).otpPending = s.otpPending := rfl
@[simp] theorem emit_xactReq (s : State) (r : Request) : (s.emit r).xactReq = s.xactReq := rfl
@[simp] theorem emit_volUnlock (s : State) (r : Request) : (s.emit r).volUnlock = s.volUnlock := rfl
@[simp] theorem emit_initErr (s : State) (r : Request) : (s.emit r).initErr = s.initErr := rfl
@[simp] theorem emit_clkBypReq (s : State) (r : Request) : (s.emit r).clkBypReq = s.clkBypReq := rfl
@[simp] theorem emit_inputs (s : State) (r : Request) : (s.emit r).inputs = s.inputs := rfl
@[simp] theorem emit_otpAccept (s : State) (r : Request) : (s.emit r).otpAccept = s.otpAccept := rfl
@[simp] theorem emit_rdata (s : State) (r : Request) : (s.emit r).rdata = s.rdata := rfl
@[simp] theorem emit_emitted (s : State) (r : Request) : (s.emit r).emitted = s.emitted ++ [r] := rfl
@[simp] theorem emit_diag (s : State) (r : Request) : (s.emit r).diag = s.diag := rfl
@[simp] theorem emit_freeCtr (s : State) (r : Request) : (s.emit r).freeCtr = s.freeCtr := rfl

@[simp] theorem note_fsm (s : State) (d : Diag) : (s.note d).fsm = s.fsm := rfl
@[simp] theorem note_lcState (s : State) (d : Diag) : (s.note d).lcState = s.lcState := rfl
@[simp] theorem note_lcCnt (s : State) (d : Diag) : (s.note d).lcCnt = s.lcCnt := rfl
@[simp] theorem note_slotSw (s : State) (d : Diag) : (s.note d).slotSw = s.slotSw := rfl
@[simp] theorem note_slotDbg (s : State) (d : Diag) : (s.note d).slotDbg = s.slotDbg := rfl
@[simp] theorem note_owner (s : State) (d : Diag) : (s.note d).owner = s.owner := rfl
@[simp] theorem note_ctrl (s : State) (d : Diag) : (s.note d).ctrl = s.ctrl := rfl
@[simp] theorem note_claimRegwen (s : State) (d : Diag) : (s.note d).claimRegwen = s.claimRegwen := rfl
@[simp] theorem note_status (s : State) (d : Diag) : (s.note d).status = s.status := rfl
@[simp] theorem note_idState (s : State) (d : Diag) : (s.note d).idState = s.idState := rfl
@[simp] theorem note_tokens (s : State) (d : Diag) : (s.note d).tokens = s.tokens := rfl
@[simp] theorem note_hashState (s : State) (d : Diag) : (s.note d).hashState = s.hashState := rfl
@[simp] theorem note_hashReq (s : State) (d : Diag) : (s.note d).hashReq = s.hashReq := rfl
@[simp] theorem note_digest (s : State) (d : Diag) : (s.note d).digest = s.digest := rfl
@[simp] theorem note_otpPending (s : State) (d : Diag) : (s.note d).otpPending = s.otpPending := rfl
@[simp] theorem note_xactReq (s : State) (d : Diag) : (s.note d).xactReq = s.xactReq := rfl
@[simp] theorem note_volUnlock (s : State) (d : Diag) : (s.note d).volUnlock = s.volUnlock := rfl
@[simp] theorem note_initErr (s : State) (d : Diag) : (s.note d).initErr = s.initErr := rfl
@[simp] theorem note_clkBypReq (s : State) (d : Diag) : (s.note d).clkBypReq = s.clkBypReq := rfl
@[simp] theorem note_inputs (s : State) (d : Diag) : (s.note d).inputs = s.inputs := rfl
@[simp] theorem note_otpAccept (s : State) (d : Diag) : (s.note d).otpAccept = s.otpAccept := rfl
@[simp] theorem note_rdata (s : State) (d : Diag) : (s.note d).rdata = s.rdata := rfl
@[simp] theorem note_emitted (s : State) (d : Diag) : (s.note d).emitted = s.emitted := rfl
@[simp] theorem note_diag (s : State) (d : Diag) : (s.note d).diag = s.diag ++ [d] := rfl
@[simp] theorem note_freeCtr (s : State) (d : Diag) : (s.note d).freeCtr = s.freeCtr := rfl

@[simp] theorem drawn_fsm (s : State) : (s.drawn).fsm = s.fsm := rfl
@[simp] theorem drawn_lcState (s : State) : (s.drawn).lcState = s.lcState := rfl
@[simp] theorem drawn_lcCnt (s : State) : (s.drawn).lcCnt = s.lcCnt := rfl
@[simp] theorem drawn_slotSw (s : State) : (s.drawn).slotSw = s.slotSw := rfl
@[simp] theorem drawn_slotDbg (s : State) : (s.drawn).slotDbg = s.slotDbg := rfl
@[simp] theorem drawn_owner (s : State) : (s.drawn).owner = s.owner := rfl
@[simp] theorem drawn_ctrl (s : State) : (s.drawn).ctrl = s.ctrl := rfl
@[simp] theorem drawn_claimRegwen (s : State) : (s.drawn).claimRegwen = s.claimRegwen := rfl
@[simp] theorem drawn_status (s : State) : (s.drawn).status = s.status := rfl
@[simp] theorem drawn_idState (s : State) : (s.drawn).idState = s.idState := rfl
@[simp] theorem drawn_tokens (s : State) : (s.drawn).tokens = s.tokens := rfl
@[simp] theorem drawn_hashState (s : State) : (s.drawn).hashState = s.hashState := rfl
@[simp] theorem drawn_hashReq (s : State) : (s.drawn).hashReq = s.hashReq := rfl
@[simp] theorem drawn_digest (s : State) : (s.drawn).digest = s.digest := rfl
@[simp] theorem drawn_otpPending (s : State) : (s.drawn).otpPending = s.otpPending := rfl
@[simp] theorem drawn_xactReq (s : State) : (s.drawn).xactReq = s.xactReq := rfl
@[simp] theorem drawn_volUnlock (s : State) : (s.drawn).volUnlock = s.volUnlock := rfl
@[simp] theorem drawn_initErr (s : State) : (s.drawn).initErr = s.initErr := rfl
@[simp] theorem drawn_clkBypReq (s : State) : (s.drawn).clkBypReq = s.clkBypReq := rfl
@[simp] theorem drawn_inputs (s : State) : (s.drawn).inputs = s.inputs := rfl
@[simp] theorem drawn_otpAccept (s : State) : (s.drawn).otpAccept = s.otpAccept := rfl
@[simp] theorem drawn_rdata (s : State) : (s.drawn).rdata = s.rdata := rfl
@[simp] theorem drawn_emitted (s : State) : (s.drawn).emitted = s.emitted := rfl
@[simp] theorem drawn_diag (s : State) : (s.drawn).diag = s.diag := rfl
@[simp] theorem drawn_freeCtr (s : State) : (s.drawn).freeCtr = s.freeCtr + 1 := rfl

@[simp] theorem guestError_fsm (s : State) : (guestError s).fsm = s.fsm := rfl
@[simp] theorem guestError_lcState (s : State) : (guestError s).lcState = s.lcState := rfl
@[simp] theorem guestError_lcCnt (s : State) : (guestError s).lcCnt = s.lcCnt := rfl
@[simp] theorem guestError_slotSw (s : State) : (guestError s).slotSw = s.slotSw := rfl
@[simp] theorem guestError_slotDbg (s : State) : (guestError s).slotDbg = s.slotDbg := rfl
@[simp] theorem guestError_owner (s : State) : (guestError s).owner = s.owner := rfl
@[simp] theorem guestError_ctrl (s : State) : (guestError s).ctrl = s.ctrl := rfl
@[simp] theorem guestError_claimRegwen (s : State) : (guestError s).claimRegwen = s.claimRegwen := rfl
@[simp] theorem guestError_status (s : State) : (guestError s).status = s.status := rfl
@[simp] theorem guestError_idState (s : State) : (guestError s).idState = s.idState := rfl
@[simp] theorem guestError_tokens (s : State) : (guestError s).tokens = s.tokens := rfl
@[simp] theorem guestError_hashState (s : State) : (guestError s).hashState = s.hashState := rfl
@[simp] theorem guestError_hashReq (s : State) : (guestError s).hashReq = s.hashReq := rfl
@[simp] theorem guestError_digest (s : State) : (guestError s).digest = s.digest := rfl
@[simp] theorem guestError_otpPending (s : State) : (guestError s).otpPending = s.otpPending := rfl
@[simp] theorem guestError_xactReq (s : State) : (guestError s).xactReq = s.xactReq := rfl
@[simp] theorem guestError_volUnlock (s : State) : (guestError s).volUnlock = s.volUnlock := rfl
@[simp] theorem guestError_initErr (s : State) : (guestError s).initErr = s.initErr := rfl
@[simp] theorem guestError_clkBypReq (s : State) : (guestError s).clkBypReq = s.clkBypReq := rfl
@[simp] theorem guestError_inputs (s : State) : (guestError s).inputs = s.inputs := rfl
@[simp] theorem guestError_otpAccept (s : State) : (guestError s).otpAccept = s.otpAccept := rfl
@[simp] theorem guestError_rdata (s : State) : (guestError s).rdata = s.rdata := rfl
@[simp] theorem guestError_emitted (s : State) : (guestError s).emitted = s.emitted := rfl
@[simp] theorem guestError_diag (s : State) : (guestError s).diag = s.diag ++ [.guestError] := rfl
@[simp] theorem guestError_freeCtr (s : State) : (guestError s).freeCtr = s.freeCtr := rfl

@[simp] theorem guestErrorRead_fsm (s : State) : (guestErrorRead s).fsm = s.fsm := rfl
@[simp] theorem guestErrorRead_lcState (s : State) : (guestErrorRead s).lcState = s.lcState := rfl
@[simp] theorem guestErrorRead_lcCnt (s : State) : (guestErrorRead s).lcCnt = s.lcCnt := rfl
@[simp] theorem guestErrorRead_slotSw (s : State) : (guestErrorRead s).slotSw = s.slotSw := rfl
@[simp] theorem guestErrorRead_slotDbg (s : State) : (guestErrorRead s).slotDbg = s.slotDbg := rfl
@[simp] theorem guestErrorRead_owner (s : State) : (guestErrorRead s).owner = s.owner := rfl
@[simp] theorem guestErrorRead_ctrl (s : State) : (guestErrorRead s).ctrl = s.ctrl := rfl
@[simp] theorem guestErrorRead_claimRegwen (s : State) : (guestErrorRead s).claimRegwen = s.claimRegwen := rfl
@[simp] theorem guestErrorRead_status (s : State) : (guestErrorRead s).status = s.status := rfl
@[simp] theorem guestErrorRead_idState (s : State) : (guestErrorRead s).idState = s.idState := rfl
@[simp] theorem guestErrorRead_tokens (s : State) : (guestErrorRead s).tokens = s.tokens := rfl
@[simp] theorem guestErrorRead_hashState (s : State) : (guestErrorRead s).hashState = s.hashState := rfl
@[simp] theorem guestErrorRead_hashReq (s : State) : (guestErrorRead s).hashReq = s.hashReq := rfl
@[simp] theorem guestErrorRead_digest (s : State) : (guestErrorRead s).digest = s.digest := rfl
@[simp] theorem guestErrorRead_otpPending (s : State) : (guestErrorRead s).otpPending = s.otpPending := rfl
@[simp] theorem guestErrorRead_xactReq (s : State) : (guestErrorRead s).xactReq = s.xactReq := rfl
@[simp] theorem guestErrorRead_volUnlock (s : State) : (guestErrorRead s).volUnlock = s.volUnlock := rfl
@[simp] theorem guestErrorRead_initErr (s : State) : (guestErrorRead s).initErr = s.initErr := rfl
@[simp] theorem guestErrorRead_clkBypReq (s : State) : (guestErrorRead s).clkBypReq = s.clkBypReq := rfl
@[simp] theorem guestErrorRead_inputs (s : State) : (guestErrorRead s).inputs = s.inputs := rfl
@[simp] theorem guestErrorRead_otpAccept (s : State) : (guestErrorRead s).otpAccept = s.otpAccept := rfl
@[simp] theorem guestErrorRead_rdata (s : State) : (guestErrorRead s).rdata = some 0#32 := rfl
@[simp] theorem guestErrorRead_emitted (s : State) : (guestErrorRead s).emitted = s.emitted := rfl
@[simp] theorem guestErrorRead_diag (s : State) : (guestErrorRead s).diag = s.diag ++ [.guestError] := rfl
@[simp] theorem guestErrorRead_freeCtr (s : State) : (guestErrorRead s).freeCtr = s.freeCtr := rfl

@[simp] theorem raiseOp_fsm (e : OpErr) (s : State) : (raiseOp e s).fsm = .postTrans := rfl
@[simp] theorem raiseOp_lcState (e : OpErr) (s : State) : (raiseOp e s).lcState = s.lcState := rfl
@[simp] theorem raiseOp_lcCnt (e : OpErr) (s : State) : (raiseOp e s).lcCnt = s.lcCnt := rfl
@[simp] theorem raiseOp_slotSw (e : OpErr) (s : State) : (raiseOp e s).slotSw = s.slotSw := rfl
@[simp] theorem raiseOp_slotDbg (e : OpErr) (s : State) : (raiseOp e s).slotDbg = s.slotDbg := rfl
@[simp] theorem raiseOp_owner (e : OpErr) (s : State) : (raiseOp e s).owner = s.owner := rfl
@[simp] theorem raiseOp_ctrl (e : OpErr) (s : State) : (raiseOp e s).ctrl = s.ctrl := rfl
@[simp] theorem raiseOp_claimRegwen (e : OpErr) (s : State) : (raiseOp e s).claimRegwen = s.claimRegwen := rfl
@[simp] theorem raiseOp_status (e : OpErr) (s : State) : (raiseOp e s).status = s.status.withError e := rfl
@[simp] theorem raiseOp_idState (e : OpErr) (s : State) : (raiseOp e s).idState = s.idState := rfl
@[simp] theorem raiseOp_tokens (e : OpErr) (s : State) : (raiseOp e s).tokens = s.tokens := rfl
@[simp] theorem raiseOp_hashState (e : OpErr) (s : State) : (raiseOp e s).hashState = s.hashState := rfl
@[simp] theorem raiseOp_hashReq (e : OpErr) (s : State) : (raiseOp e s).hashReq = s.hashReq := rfl
@[simp] theorem raiseOp_digest (e : OpErr) (s : State) : (raiseOp e s).digest = s.digest := rfl
@[simp] theorem raiseOp_otpPending (e : OpErr) (s : State) : (raiseOp e s).otpPending = s.otpPending := rfl
@[simp] theorem raiseOp_xactReq (e : OpErr) (s : State) : (raiseOp e s).xactReq = s.xactReq := rfl
@[simp] theorem raiseOp_volUnlock (e : OpErr) (s : State) : (raiseOp e s).volUnlock = s.volUnlock := rfl
@[simp] theorem raiseOp_initErr (e : OpErr) (s : State) : (raiseOp e s).initErr = s.initErr := rfl
@[simp] theorem raiseOp_clkBypReq (e : OpErr) (s : State) : (raiseOp e s).clkBypReq = s.clkBypReq := rfl
@[simp] theorem raiseOp_inputs (e : OpErr) (s : State) : (raiseOp e s).inputs = s.inputs := rfl
@[simp] theorem raiseOp_otpAccept (e : OpErr) (s : State) : (raiseOp e s).otpAccept = s.otpAccept := rfl
@[simp] theorem raiseOp_rdata (e : OpErr) (s : State) : (raiseOp e s).rdata = s.rdata := rfl
@[simp] theorem raiseOp_emitted (e : OpErr) (s : State) : (raiseOp e s).emitted = s.emitted := rfl
@[simp] theorem raiseOp_diag (e : OpErr) (s : State) : (raiseOp e s).diag = s.diag := rfl
@[simp] theorem raiseOp_freeCtr (e : OpErr) (s : State) : (raiseOp e s).freeCtr = s.freeCtr := rfl

@[simp] theorem escalate_fsm (s : State) : (escalate s).fsm = .escalate := rfl
@[simp] theorem escalate_lcState (s : State) : (escalate s).lcState = s.lcState := rfl
@[simp] theorem escalate_lcCnt (s : State) : (escalate s).lcCnt = s.lcCnt := rfl
@[simp] theorem escalate_slotSw (s : State) : (escalate s).slotSw = s.slotSw := rfl
@[simp] theorem escalate_slotDbg (s : State) : (escalate s).slotDbg = s.slotDbg := rfl
@[simp] theorem escalate_owner (s : State) : (escalate s).owner = s.owner := rfl
@[simp] theorem escalate_ctrl (s : State) : (escalate s).ctrl = s.ctrl := rfl
@[simp] theorem escalate_claimRegwen (s : State) : (escalate s).claimRegwen = s.claimRegwen := rfl
@[simp] theorem escalate_status (s : State) : (escalate s).status = s.status := rfl
@[simp] theorem escalate_idState (s : State) : (escalate s).idState = s.idState := rfl
@[simp] theorem escalate_tokens (s : State) : (escalate s).tokens = s.tokens := rfl
@[simp] theorem escalate_hashState (s : State) : (escalate s).hashState = s.hashState := rfl
@[simp] theorem escalate_hashReq (s : State) : (escalate s).hashReq = s.hashReq := rfl
@[simp] theorem escalate_digest (s : State) : (escalate s).digest = s.digest := rfl
@[simp] theorem escalate_otpPending (s : State) : (escalate s).otpPending = s.otpPending := rfl
@[simp] theorem escalate_xactReq (s : State) : (escalate s).xactReq = s.xactReq := rfl
@[simp] theorem escalate_volUnlock (s : State) : (escalate s).volUnlock = s.volUnlock := rfl
@[simp] theorem escalate_initErr (s : State) : (escalate s).initErr = s.initErr := rfl
@[simp] theorem escalate_clkBypReq (s : State) : (escalate s).clkBypReq = s.clkBypReq := rfl
@[simp] theorem escalate_inputs (s : State) : (escalate s).inputs = s.inputs := rfl
@[simp] theorem escalate_otpAccept (s : State) : (escalate s).otpAccept = s.otpAccept := rfl
@[simp] theorem escalate_rdata (s : State) : (escalate s).rdata = s.rdata := rfl
@[simp] theorem escalate_emitted (s : State) : (escalate s).emitted = s.emitted := rfl
@[simp] theorem escalate_diag (s : State) : (escalate s).diag = s.diag := rfl
@[simp] theorem escalate_freeCtr (s : State) : (escalate s).freeCtr = s.freeCtr := rfl

@[simp] theorem storeDigest_fsm (a b : Token) (s : State) : (storeDigest a b s).fsm = s.fsm := rfl
@[simp] theorem storeDigest_lcState (a b : Token) (s : State) : (storeDigest a b s).lcState = s.lcState := rfl
@[simp] theorem storeDigest_lcCnt (a b : Token) (s : State) : (storeDigest a b s).lcCnt = s.lcCnt := rfl
@[simp] theorem storeDigest_slotSw (a b : Token) (s : State) : (storeDigest a b s).slotSw = s.slotSw := rfl
@[simp] theorem storeDigest_slotDbg (a b : Token) (s : State) : (storeDigest a b s).slotDbg = s.slotDbg := rfl
@[simp] theorem storeDigest_owner (a b : Token) (s : State) : (storeDigest a b s).owner = s.owner := rfl
@[simp] theorem storeDigest_ctrl (a b : Token) (s : State) : (storeDigest a b s).ctrl = s.ctrl := rfl
@[simp] theorem storeDigest_claimRegwen (a b : Token) (s : State) : (storeDigest a b s).claimRegwen = s.claimRegwen := rfl
@[simp] theorem storeDigest_status (a b : Token) (s : State) : (storeDigest a b s).status = s.status := rfl
@[simp] theorem storeDigest_idState (a b : Token) (s : State) : (storeDigest a b s).idState = s.idState := rfl
@[simp] theorem storeDigest_tokens (a b : Token) (s : State) : (storeDigest a b s).tokens = s.tokens := rfl
@[simp] theorem storeDigest_hashState (a b : Token) (s : State) : (storeDigest a b s).hashState = .hIdle := rfl
@[simp] theorem storeDigest_hashReq (a b : Token) (s : State) : (storeDigest a b s).hashReq = s.hashReq := rfl
@[simp] theorem storeDigest_digest (a b : Token) (s : State) : (storeDigest a b s).digest = recombine a b := rfl
@[simp] theorem storeDigest_otpPending (a b : Token) (s : State) : (storeDigest a b s).otpPending = s.otpPending := rfl
@[simp] theorem storeDigest_xactReq (a b : Token) (s : State) : (storeDigest a b s).xactReq = s.xactReq := rfl
@[simp] theorem storeDigest_volUnlock (a b : Token) (s : State) : (storeDigest a b s).volUnlock = s.volUnlock := rfl
@[simp] theorem storeDigest_initErr (a b : Token) (s : State) : (storeDigest a b s).initErr = s.initErr := rfl
@[simp] theorem storeDigest_clkBypReq (a b : Token) (s : State) : (storeDigest a b s).clkBypReq = s.clkBypReq := rfl
@[simp] theorem storeDigest_inputs (a b : Token) (s : State) : (storeDigest a b s).inputs = s.inputs := rfl
@[simp] theorem storeDigest_otpAccept (a b : Token) (s : State) : (storeDigest a b s).otpAccept = s.otpAccept := rfl
@[simp] theorem storeDigest_rdata (a b : Token) (s : State) : (storeDigest a b s).rdata = s.rdata := rfl
@[simp] theorem storeDigest_emitted (a b : Token) (s : State) : (storeDigest a b s).emitted = s.emitted := rfl
@[simp] theorem storeDigest_diag (a b : Token) (s : State) : (storeDigest a b s).diag = s.diag := rfl
@[simp] theorem storeDigest_freeCtr (a b : Token) (s : State) : (storeDigest a b s).freeCtr = s.freeCtr := rfl

@[simp] theorem beginReaction_fsm (s : State) (inp : Input) (rest : List Input) : (s.beginReaction inp rest).fsm = s.fsm := rfl
@[simp] theorem beginReaction_lcState (s : State) (inp : Input) (rest : List Input) : (s.beginReaction inp rest).lcState = s.lcState := rfl
@[simp] theorem beginReaction_lcCnt (s : State) (inp : Input) (rest : List Input) : (s.beginReaction inp rest).lcCnt = s.lcCnt := rfl
@[simp] theorem beginReaction_slotSw (s : State) (inp : Input) (rest : List Input) : (s.beginReaction inp rest).slotSw = s.slotSw := rfl
@[simp] theorem beginReaction_slotDbg (s : State) (inp : Input) (rest : List Input) : (s.beginReaction inp rest).slotDbg = s.slotDbg := rfl
@[simp] theorem beginReaction_owner (s : State) (inp : Input) (rest : List Input) : (s.beginReaction inp rest).owner = s.owner := rfl
@[simp] theorem beginReaction_ctrl (s : State) (inp : Input) (rest : List Input) : (s.beginReaction inp rest).ctrl = s.ctrl := rfl
@[simp] theorem beginReaction_claimRegwen (s : State) (inp : Input) (rest : List Input) : (s.beginReaction inp rest).claimRegwen = s.claimRegwen := rfl
@[simp] theorem beginReaction_status (s : State) (inp : Input) (rest : List Input) : (s.beginReaction inp rest).status = s.status := rfl
@[simp] theorem beginReaction_idState (s : State) (inp : Input) (rest : List Input) : (s.beginReaction inp rest).idState = s.idState := rfl
@[simp] theorem beginReaction_tokens (s : State) (inp : Input) (rest : List Input) : (s.beginReaction inp rest).tokens = s.tokens := rfl
@[simp] theorem beginReaction_hashState (s : State) (inp : Input) (rest : List Input) : (s.beginReaction inp rest).hashState = s.hashState := rfl
@[simp] theorem beginReaction_hashReq (s : State) (inp : Input) (rest : List Input) : (s.beginReaction inp rest).hashReq = s.hashReq := rfl
@[simp] theorem beginReaction_digest (s : State) (inp : Input) (rest : List Input) : (s.beginReaction inp rest).digest = s.digest := rfl
@[simp] theorem beginReaction_otpPending (s : State) (inp : Input) (rest : List Input) : (s.beginReaction inp rest).otpPending = s.otpPending := rfl
@[simp] theorem beginReaction_xactReq (s : State) (inp : Input) (rest : List Input) : (s.beginReaction inp rest).xactReq = s.xactReq := rfl
@[simp] theorem beginReaction_volUnlock (s : State) (inp : Input) (rest : List Input) : (s.beginReaction inp rest).volUnlock = s.volUnlock := rfl
@[simp] theorem beginReaction_initErr (s : State) (inp : Input) (rest : List Input) : (s.beginReaction inp rest).initErr = s.initErr := rfl
@[simp] theorem beginReaction_clkBypReq (s : State) (inp : Input) (rest : List Input) : (s.beginReaction inp rest).clkBypReq = s.clkBypReq := rfl
@[simp] theorem beginReaction_inputs (s : State) (inp : Input) (rest : List Input) : (s.beginReaction inp rest).inputs = rest := rfl
@[simp] theorem beginReaction_otpAccept (s : State) (inp : Input) (rest : List Input) : (s.beginReaction inp rest).otpAccept = inp.accepted := rfl
@[simp] theorem beginReaction_rdata (s : State) (inp : Input) (rest : List Input) : (s.beginReaction inp rest).rdata = none := rfl
@[simp] theorem beginReaction_emitted (s : State) (inp : Input) (rest : List Input) : (s.beginReaction inp rest).emitted = [] := rfl
@[simp] theorem beginReaction_diag (s : State) (inp : Input) (rest : List Input) : (s.beginReaction inp rest).diag = [] := rfl
@[simp] theorem beginReaction_freeCtr (s : State) (inp : Input) (rest : List Input) : (s.beginReaction inp rest).freeCtr = s.freeCtr := rfl

@[simp] theorem withFetchWord_fsm (s : State) (nbits w : Nat) : (s.withFetchWord nbits w).fsm = s.fsm := rfl
@[simp] theorem withFetchWord_lcState (s : State) (nbits w : Nat) : (s.withFetchWord nbits w).lcState = s.lcState := rfl
@[simp] theorem withFetchWord_lcCnt (s : State) (nbits w : Nat) : (s.withFetchWord nbits w).lcCnt = s.lcCnt := rfl
@[simp] theorem withFetchWord_slotSw (s : State) (nbits w : Nat) : (s.withFetchWord nbits w).slotSw = s.slotSw := rfl
@[simp] theorem withFetchWord_slotDbg (s : State) (nbits w : Nat) : (s.withFetchWord nbits w).slotDbg = s.slotDbg := rfl
@[simp] theorem withFetchWord_owner (s : State) (nbits w : Nat) : (s.withFetchWord nbits w).owner = s.owner := rfl
@[simp] theorem withFetchWord_ctrl (s : State) (nbits w : Nat) : (s.withFetchWord nbits w).ctrl = s.ctrl := rfl
@[simp] theorem withFetchWord_claimRegwen (s : State) (nbits w : Nat) : (s.withFetchWord nbits w).claimRegwen = s.claimRegwen := rfl
@[simp] theorem withFetchWord_status (s : State) (nbits w : Nat) : (s.withFetchWord nbits w).status = s.status := rfl
@[simp] theorem withFetchWord_idState (s : State) (nbits w : Nat) : (s.withFetchWord nbits w).idState = s.idState := rfl
@[simp] theorem withFetchWord_tokens (s : State) (nbits w : Nat) : (s.withFetchWord nbits w).tokens = s.tokens := rfl
@[simp] theorem withFetchWord_hashState (s : State) (nbits w : Nat) : (s.withFetchWord nbits w).hashState = s.hashState := rfl
@[simp] theorem withFetchWord_hashReq (s : State) (nbits w : Nat) : (s.withFetchWord nbits w).hashReq = s.hashReq := rfl
@[simp] theorem withFetchWord_digest (s : State) (nbits w : Nat) : (s.withFetchWord nbits w).digest = s.digest := rfl
@[simp] theorem withFetchWord_otpPending (s : State) (nbits w : Nat) : (s.withFetchWord nbits w).otpPending = s.otpPending := rfl
@[simp] theorem withFetchWord_xactReq (s : State) (nbits w : Nat) : (s.withFetchWord nbits w).xactReq = s.xactReq := rfl
@[simp] theorem withFetchWord_volUnlock (s : State) (nbits w : Nat) : (s.withFetchWord nbits w).volUnlock = s.volUnlock := rfl
@[simp] theorem withFetchWord_initErr (s : State) (nbits w : Nat) : (s.withFetchWord nbits w).initErr = s.initErr := rfl
@[simp] theorem withFetchWord_clkBypReq (s : State) (nbits w : Nat) : (s.withFetchWord nbits w).clkBypReq = s.clkBypReq := rfl
@[simp] theorem withFetchWord_inputs (s : State) (nbits w : Nat) : (s.withFetchWord nbits w).inputs = ⟨tableStimulus nbits w, s.otpAccept⟩ :: s.inputs := rfl
@[simp] theorem withFetchWord_otpAccept (s : State) (nbits w : Nat) : (s.withFetchWord nbits w).otpAccept = s.otpAccept := rfl
@[simp] theorem withFetchWord_rdata (s : State) (nbits w : Nat) : (s.withFetchWord nbits w).rdata = s.rdata := rfl
@[simp] theorem withFetchWord_emitted (s : State) (nbits w : Nat) : (s.withFetchWord nbits w).emitted = s.emitted := rfl
@[simp] theorem withFetchWord_diag (s : State) (nbits w : Nat) : (s.withFetchWord nbits w).diag = s.diag := rfl
@[simp] theorem withFetchWord_freeCtr (s : State) (nbits w : Nat) : (s.withFetchWord nbits w).freeCtr = s.freeCtr := rfl

@[simp] theorem setSlot_fsm (s : State) (req : Requester) (v : Slot) : (s.setSlot req v).fsm = s.fsm := by cases req <;> rfl
@[simp] theorem setSlot_lcState (s : State) (req : Requester) (v : Slot) : (s.setSlot req v).lcState = s.lcState := by cases req <;> rfl
@[simp] theorem setSlot_lcCnt (s : State) (req : Requester) (v : Slot) : (s.setSlot req v).lcCnt = s.lcCnt := by cases req <;> rfl
@[simp] theorem setSlot_owner (s : State) (req : Requester) (v : Slot) : (s.setSlot req v).owner = s.owner := by cases req <;> rfl
@[simp] theorem setSlot_ctrl (s : State) (req : Requester) (v : Slot) : (s.setSlot req v).ctrl = s.ctrl := by cases req <;> rfl
@[simp] theorem setSlot_claimRegwen (s : State) (req : Requester) (v : Slot) : (s.setSlot req v).claimRegwen = s.claimRegwen := by cases req <;> rfl
@[simp] theorem setSlot_status (s : State) (req : Requester) (v : Slot) : (s.setSlot req v).status = s.status := by cases req <;> rfl
@[simp] theorem setSlot_idState (s : State) (req : Requester) (v : Slot) : (s.setSlot req v).idState = s.idState := by cases req <;> rfl
@[simp] theorem setSlot_tokens (s : State) (req : Requester) (v : Slot) : (s.setSlot req v).tokens = s.tokens := by cases req <;> rfl
@[simp] theorem setSlot_hashState (s : State) (req : Requester) (v : Slot) : (s.setSlot req v).hashState = s.hashState := by cases req <;> rfl
@[simp] theorem setSlot_hashReq (s : State) (req : Requester) (v : Slot) : (s.setSlot req v).hashReq = s.hashReq := by cases req <;> rfl
@[simp] theorem setSlot_digest (s : State) (req : Requester) (v : Slot) : (s.setSlot req v).digest = s.digest := by cases req <;> rfl
@[simp] theorem setSlot_otpPending (s : State) (req : Requester) (v : Slot) : (s.setSlot req v).otpPending = s.otpPending := by cases req <;> rfl
@[simp] theorem setSlot_xactReq (s : State) (req : Requester) (v : Slot) : (s.setSlot req v).xactReq = s.xactReq := by cases req <;> rfl
@[simp] theorem setSlot_volUnlock (s : State) (req : Requester) (v : Slot) : (s.setSlot req v).volUnlock = s.volUnlock := by cases req <;> rfl
@[simp] theorem setSlot_initErr (s : State) (req : Requester) (v : Slot) : (s.setSlot req v).initErr = s.initErr := by cases req <;> rfl
@[simp] theorem setSlot_clkBypReq (s : State) (req : Requester) (v : Slot) : (s.setSlot req v).clkBypReq = s.clkBypReq := by cases req <;> rfl
@[simp] theorem setSlot_inputs (s : State) (req : Requester) (v : Slot) : (s.setSlot req v).inputs = s.inputs := by cases req <;> rfl
@[simp] theorem setSlot_otpAccept (s : State) (req : Requester) (v : Slot) : (s.setSlot req v).otpAccept = s.otpAccept := by cases req <;> rfl
@[simp] theorem setSlot_rdata (s : State) (req : Requester) (v : Slot) : (s.setSlot req v).rdata = s.rdata := by cases req <;> rfl
@[simp] theorem setSlot_emitted (s : State) (req : Requester) (v : Slot) : (s.setSlot req v).emitted = s.emitted := by cases req <;> rfl
@[simp] theorem setSlot_diag (s : State) (req : Requester) (v : Slot) : (s.setSlot req v).diag = s.diag := by cases req <;> rfl
@[simp] theorem setSlot_freeCtr (s : State) (req : Requester) (v : Slot) : (s.setSlot req v).freeCtr = s.freeCtr := by cases req <;> rfl

@[simp] theorem rearm_lcState (s : State) : (rearm s).lcState = s.lcState := by unfold rearm; split <;> rfl
@[simp] theorem rearm_lcCnt (s : State) : (rearm s).lcCnt = s.lcCnt := by unfold rearm; split <;> rfl
@[simp] theorem rearm_slotSw (s : State) : (rearm s).slotSw = s.slotSw := by unfold rearm; split <;> rfl
@[simp] theorem rearm_slotDbg (s : State) : (rearm s).slotDbg = s.slotDbg := by unfold rearm; split <;> rfl
@[simp] theorem rearm_owner (s : State) : (rearm s).owner = s.owner := by unfold rearm; split <;> rfl
@[simp] theorem rearm_ctrl (s : State) : (rearm s).ctrl = s.ctrl := by unfold rearm; split <;> rfl
@[simp] theorem rearm_claimRegwen (s : State) : (rearm s).claimRegwen = s.claimRegwen := by unfold rearm; split <;> rfl
@[simp] theorem rearm_status (s : State) : (rearm s).status = s.status := by unfold rearm; split <;> rfl
@[simp] theorem rearm_idState (s : State) : (rearm s).idState = s.idState := by unfold rearm; split <;> rfl
@[simp] theorem rearm_tokens (s : State) : (rearm s).tokens = s.tokens := by unfold rearm; split <;> rfl
@[simp] theorem rearm_hashState (s : State) : (rearm s).hashState = s.hashState := by unfold rearm; split <;> rfl
@[simp] theorem rearm_hashReq (s : State) : (rearm s).hashReq = s.hashReq := by unfold rearm; split <;> rfl
@[simp] theorem rearm_digest (s : State) : (rearm s).digest = s.digest := by unfold rearm; split <;> rfl
@[simp] theorem rearm_otpPending (s : State) : (rearm s).otpPending = s.otpPending := by unfold rearm; split <;> rfl
@[simp] theorem rearm_xactReq (s : State) : (rearm s).xactReq = s.xactReq := by unfold rearm; split <;> rfl
@[simp] theorem rearm_volUnlock (s : State) : (rearm s).volUnlock = s.volUnlock := by unfold rearm; split <;> rfl
@[simp] theorem rearm_initErr (s : State) : (rearm s).initErr = s.initErr := by unfold rearm; split <;> rfl
@[simp] theorem rearm_clkBypReq (s : State) : (rearm s).clkBypReq = s.clkBypReq := by unfold rearm; split <;> rfl
@[simp] theorem rearm_inputs (s : State) : (rearm s).inputs = s.inputs := by unfold rearm; split <;> rfl
@[simp] theorem rearm_otpAccept (s : State) : (rearm s).otpAccept = s.otpAccept := by unfold rearm; split <;> rfl
@[simp] theorem rearm_rdata (s : State) : (rearm s).rdata = s.rdata := by unfold rearm; split <;> rfl
@[simp] theorem rearm_emitted (s : State) : (rearm s).emitted = s.emitted := by unfold rearm; split <;> rfl
@[simp] theorem rearm_diag (s : State) : (rearm s).diag = s.diag := by unfold rearm; split <;> rfl
@[simp] theorem rearm_freeCtr (s : State) : (rearm s).freeCtr = s.freeCtr := by unfold rearm; split <;> rfl

@[simp] theorem release_fsm (req : Requester) (s : State) : (release req s).fsm = s.fsm := by unfold release; split <;> rfl
@[simp] theorem release_lcState (req : Requester) (s : State) : (release req s).lcState = s.lcState := by unfold release; split <;> rfl
@[simp] theorem release_lcCnt (req : Requester) (s : State) : (release req s).lcCnt = s.lcCnt := by unfold release; split <;> rfl
@[simp] theorem release_slotSw (req : Requester) (s : State) : (release req s).slotSw = s.slotSw := by unfold release; split <;> rfl
@[simp] theorem release_slotDbg (req : Requester) (s : State) : (release req s).slotDbg = s.slotDbg := by unfold release; split <;> rfl
@[simp] theorem release_ctrl (req : Requester) (s : State) : (release req s).ctrl = s.ctrl := by unfold release; split <;> rfl
@[simp] theorem release_claimRegwen (req : Requester) (s : State) : (release req s).claimRegwen = s.claimRegwen := by unfold release; split <;> rfl
@[simp] theorem release_status (req : Requester) (s : State) : (release req s).status = s.status := by unfold release; split <;> rfl
@[simp] theorem release_idState (req : Requester) (s : State) : (release req s).idState = s.idState := by unfold release; split <;> rfl
@[simp] theorem release_tokens (req : Requester) (s : State) : (release req s).tokens = s.tokens := by unfold release; split <;> rfl
@[simp] theorem release_hashState (req : Requester) (s : State) : (release req s).hashState = s.hashState := by unfold release; split <;> rfl
@[simp] theorem release_hashReq (req : Requester) (s : State) : (release req s).hashReq = s.hashReq := by unfold release; split <;> rfl
@[simp] theorem release_digest (req : Requester) (s : State) : (release req s).digest = s.digest := by unfold release; split <;> rfl
@[simp] theorem release_otpPending (req : Requester) (s : State) : (release req s).otpPending = s.otpPending := by unfold release; split <;> rfl
@[simp] theorem release_xactReq (req : Requester) (s : State) : (release req s).xactReq = s.xactReq := by unfold release; split <;> rfl
@[simp] theorem release_volUnlock (req : Requester) (s : State) : (release req s).volUnlock = s.volUnlock := by unfold release; split <;> rfl
@[simp] theorem release_initErr (req : Requester) (s : State) : (release req s).initErr = s.initErr := by unfold release; split <;> rfl
@[simp] theorem release_clkBypReq (req : Requester) (s : State) : (release req s).clkBypReq = s.clkBypReq := by unfold release; split <;> rfl
@[simp] theorem release_inputs (req : Requester) (s : State) : (release req s).inputs = s.inputs := by unfold release; split <;> rfl
@[simp] theorem release_otpAccept (req : Requester) (s : State) : (release req s).otpAccept = s.otpAccept := by unfold release; split <;> rfl
@[simp] theorem release_rdata (req : Requester) (s : State) : (release req s).rdata = s.rdata := by unfold release; split <;> rfl
@[simp] theorem release_emitted (req : Requester) (s : State) : (release req s).emitted = s.emitted := by unfold release; split <;> rfl
@[simp] theorem release_diag (req : Requester) (s : State) : (release req s).diag = s.diag := by unfold release; split <;> rfl
@[simp] theorem release_freeCtr (req : Requester) (s : State) : (release req s).freeCtr = s.freeCtr := by unfold release; split <;> rfl

@[simp] theorem noteUnset_fsm (k : TokenKind) (s : State) : (noteUnset k s).fsm = s.fsm := by unfold noteUnset; split <;> rfl
@[simp] theorem noteUnset_lcState (k : TokenKind) (s : State) : (noteUnset k s).lcState = s.lcState := by unfold noteUnset; split <;> rfl
@[simp] theorem noteUnset_lcCnt (k : TokenKind) (s : State) : (noteUnset k s).lcCnt = s.lcCnt := by unfold noteUnset; split <;> rfl
@[simp] theorem noteUnset_slotSw (k : TokenKind) (s : State) : (noteUnset k s).slotSw = s.slotSw := by unfold noteUnset; split <;> rfl
@[simp] theorem noteUnset_slotDbg (k : TokenKind) (s : State) : (noteUnset k s).slotDbg = s.slotDbg := by unfold noteUnset; split <;> rfl
@[simp] theorem noteUnset_owner (k : TokenKind) (s : State) : (noteUnset k s).owner = s.owner := by unfold noteUnset; split <;> rfl
@[simp] theorem noteUnset_ctrl (k : TokenKind) (s : State) : (noteUnset k s).ctrl = s.ctrl := by unfold noteUnset; split <;> rfl
@[simp] theorem noteUnset_claimRegwen (k : TokenKind) (s : State) : (noteUnset k s).claimRegwen = s.claimRegwen := by unfold noteUnset; split <;> rfl
@[simp] theorem noteUnset_status (k : TokenKind) (s : State) : (noteUnset k s).status = s.status := by unfold noteUnset; split <;> rfl
@[simp] theorem noteUnset_idState (k : TokenKind) (s : State) : (noteUnset k s).idState = s.idState := by unfold noteUnset; split <;> rfl
@[simp] theorem noteUnset_tokens (k : TokenKind) (s : State) : (noteUnset k s).tokens = s.tokens := by unfold noteUnset; split <;> rfl
@[simp] theorem noteUnset_hashState (k : TokenKind) (s : State) : (noteUnset k s).hashState = s.hashState := by unfold noteUnset; split <;> rfl
@[simp] theorem noteUnset_hashReq (k : TokenKind) (s : State) : (noteUnset k s).hashReq = s.hashReq := by unfold noteUnset; split <;> rfl
@[simp] theorem noteUnset_digest (k : TokenKind) (s : State) : (noteUnset k s).digest = s.digest := by unfold noteUnset; split <;> rfl
@[simp] theorem noteUnset_otpPending (k : TokenKind) (s : State) : (noteUnset k s).otpPending = s.otpPending := by unfold noteUnset; split <;> rfl
@[simp] theorem noteUnset_xactReq (k : TokenKind) (s : State) : (noteUnset k s).xactReq = s.xactReq := by unfold noteUnset; split <;> rfl
@[simp] theorem noteUnset_volUnlock (k : TokenKind) (s : State) : (noteUnset k s).volUnlock = s.volUnlock := by unfold noteUnset; split <;> rfl
@[simp] theorem noteUnset_initErr (k : TokenKind) (s : State) : (noteUnset k s).initErr = s.initErr := by unfold noteUnset; split <;> rfl
@[simp] theorem noteUnset_clkBypReq (k : TokenKind) (s : State) : (noteUnset k s).clkBypReq = s.clkBypReq := by unfold noteUnset; split <;> rfl
@[simp] theorem noteUnset_inputs (k : TokenKind) (s : State) : (noteUnset k s).inputs = s.inputs := by unfold noteUnset; split <;> rfl
@[simp] theorem noteUnset_otpAccept (k : TokenKind) (s : State) : (noteUnset k s).otpAccept = s.otpAccept := by unfold noteUnset; split <;> rfl
@[simp] theorem noteUnset_rdata (k : TokenKind) (s : State) : (noteUnset k s).rdata = s.rdata := by unfold noteUnset; split <;> rfl
@[simp] theorem noteUnset_emitted (k : TokenKind) (s : State) : (noteUnset k s).emitted = s.emitted := by unfold noteUnset; split <;> rfl
@[simp] theorem noteUnset_freeCtr (k : TokenKind) (s : State) : (noteUnset k s).freeCtr = s.freeCtr := by unfold noteUnset; split <;> rfl

@[simp] theorem requestClock_fsm (t : Option LcState) (s : State) : (requestClock t s).fsm = s.fsm := by unfold requestClock; split <;> rfl
@[simp] theorem requestClock_lcState (t : Option LcState) (s : State) : (requestClock t s).lcState = s.lcState := by unfold requestClock; split <;> rfl
@[simp] theorem requestClock_lcCnt (t : Option LcState) (s : State) : (requestClock t s).lcCnt = s.lcCnt := by unfold requestClock; split <;> rfl
@[simp] theorem requestClock_slotSw (t : Option LcState) (s : State) : (requestClock t s).slotSw = s.slotSw := by unfold requestClock; split <;> rfl
@[simp] theorem requestClock_slotDbg (t : Option LcState) (s : State) : (requestClock t s).slotDbg = s.slotDbg := by unfold requestClock; split <;> rfl
@[simp] theorem requestClock_owner (t : Option LcState) (s : State) : (requestClock t s).owner = s.owner := by unfold requestClock; split <;> rfl
@[simp] theorem requestClock_ctrl (t : Option LcState) (s : State) : (requestClock t s).ctrl = s.ctrl := by unfold requestClock; split <;> rfl
@[simp] theorem requestClock_claimRegwen (t : Option LcState) (s : State) : (requestClock t s).claimRegwen = s.claimRegwen := by unfold requestClock; split <;> rfl
@[simp] theorem requestClock_idState (t : Option LcState) (s : State) : (requestClock t s).idState = s.idState := by unfold requestClock; split <;> rfl
@[simp] theorem requestClock_tokens (t : Option LcState) (s : State) : (requestClock t s).tokens = s.tokens := by unfold requestClock; split <;> rfl
@[simp] theorem requestClock_hashState (t : Option LcState) (s : State) : (requestClock t s).hashState = s.hashState := by unfold requestClock; split <;> rfl
@[simp] theorem requestClock_hashReq (t : Option LcState) (s : State) : (requestClock t s).hashReq = s.hashReq := by unfold requestClock; split <;> rfl
@[simp] theorem requestClock_digest (t : Option LcState) (s : State) : (requestClock t s).digest = s.digest := by unfold requestClock; split <;> rfl
@[simp] theorem requestClock_otpPending (t : Option LcState) (s : State) : (requestClock t s).otpPending = s.otpPending := by unfold requestClock; split <;> rfl
@[simp] theorem requestClock_xactReq (t : Option LcState) (s : State) : (requestClock t s).xactReq = s.xactReq := by unfold requestClock; split <;> rfl
@[simp] theorem requestClock_volUnlock (t : Option LcState) (s : State) : (requestClock t s).volUnlock = s.volUnlock := by unfold requestClock; split <;> rfl
@[simp] theorem requestClock_initErr (t : Option LcState) (s : State) : (requestClock t s).initErr = s.initErr := by unfold requestClock; split <;> rfl
@[simp] theorem requestClock_inputs (t : Option LcState) (s : State) : (requestClock t s).inputs = s.inputs := by unfold requestClock; split <;> rfl
@[simp] theorem requestClock_otpAccept (t : Option LcState) (s : State) : (requestClock t s).otpAccept = s.otpAccept := by unfold requestClock; split <;> rfl
@[simp] theorem requestClock_rdata (t : Option LcState) (s : State) : (requestClock t s).rdata = s.rdata := by unfold requestClock; split <;> rfl
@[simp] theorem requestClock_emitted (t : Option LcState) (s : State) : (requestClock t s).emitted = s.emitted := by unfold requestClock; split <;> rfl
@[simp] theorem requestClock_diag (t : Option LcState) (s : State) : (requestClock t s).diag = s.diag := by unfold requestClock; split <;> rfl
@[simp] theorem requestClock_freeCtr (t : Option LcState) (s : State) : (requestClock t s).freeCtr = s.freeCtr := by unfold requestClock; split <;> rfl

@[simp] theorem programReq_lcState (a b : EncString) (s : State) : (programReq a b s).lcState = s.lcState := by unfold programReq; dsimp only; split <;> rfl
@[simp] theorem programReq_lcCnt (a b : EncString) (s : State) : (programReq a b s).lcCnt = s.lcCnt := by unfold programReq; dsimp only; split <;> rfl
@[simp] theorem programReq_slotSw (a b : EncString) (s : State) : (programReq a b s).slotSw = s.slotSw := by unfold programReq; dsimp only; split <;> rfl
@[simp] theorem programReq_slotDbg (a b : EncString) (s : State) : (programReq a b s).slotDbg = s.slotDbg := by unfold programReq; dsimp only; split <;> rfl
@[simp] theorem programReq_owner (a b : EncString) (s : State) : (programReq a b s).owner = s.owner := by unfold programReq; dsimp only; split <;> rfl
@[simp] theorem programReq_ctrl (a b : EncString) (s : State) : (programReq a b s).ctrl = s.ctrl := by unfold programReq; dsimp only; split <;> rfl
@[simp] theorem programReq_claimRegwen (a b : EncString) (s : State) : (programReq a b s).claimRegwen = s.claimRegwen := by unfold programReq; dsimp only; split <;> rfl
@[simp] theorem programReq_idState (a b : EncString) (s : State) : (programReq a b s).idState = s.idState := by unfold programReq; dsimp only; split <;> rfl
@[simp] theorem programReq_tokens (a b : EncString) (s : State) : (programReq a b s).tokens = s.tokens := by unfold programReq; dsimp only; split <;> rfl
@[simp] theorem programReq_hashState (a b : EncString) (s : State) : (programReq a b s).hashState = s.hashState := by unfold programReq; dsimp only; split <;> rfl
@[simp] theorem programReq_hashReq (a b : EncString) (s : State) : (programReq a b s).hashReq = s.hashReq := by unfold programReq; dsimp only; split <;> rfl
@[simp] theorem programReq_digest (a b : EncString) (s : State) : (programReq a b s).digest = s.digest := by unfold programReq; dsimp only; split <;> rfl
@[simp] theorem programReq_xactReq (a b : EncString) (s : State) : (programReq a b s).xactReq = s.xactReq := by unfold programReq; dsimp only; split <;> rfl
@[simp] theorem programReq_volUnlock (a b : EncString) (s : State) : (programReq a b s).volUnlock = s.volUnlock := by unfold programReq; dsimp only; split <;> rfl
@[simp] theorem programReq_initErr (a b : EncString) (s : State) : (programReq a b s).initErr = s.initErr := by unfold programReq; dsimp only; split <;> rfl
@[simp] theorem programReq_clkBypReq (a b : EncString) (s : State) : (programReq a b s).clkBypReq = s.clkBypReq := by unfold programReq; dsimp only; split <;> rfl
@[simp] theorem programReq_inputs (a b : EncString) (s : State) : (programReq a b s).inputs = s.inputs := by unfold programReq; dsimp only; split <;> rfl
@[simp] theorem programReq_otpAccept (a b : EncString) (s : State) : (programReq a b s).otpAccept = s.otpAccept := by unfold programReq; dsimp only; split <;> rfl
@[simp] theorem programReq_rdata (a b : EncString) (s : State) : (programReq a b s).rdata = s.rdata := by unfold programReq; dsimp only; split <;> rfl
@[simp] theorem programReq_diag (a b : EncString) (s : State) : (programReq a b s).diag = s.diag := by unfold programReq; dsimp only; split <;> rfl
@[simp] theorem programReq_freeCtr (a b : EncString) (s : State) : (programReq a b s).freeCtr = s.freeCtr := by unfold programReq; dsimp only; split <;> rfl

@[simp] theorem volatileUnlock_lcCnt (req : Requester) (s : State) : (volatileUnlock req s).lcCnt = s.lcCnt := by unfold volatileUnlock; split <;> simp
@[simp] theorem volatileUnlock_slotSw (req : Requester) (s : State) : (volatileUnlock req s).slotSw = s.slotSw := by unfold volatileUnlock; split <;> simp
@[simp] theorem volatileUnlock_slotDbg (req : Requester) (s : State) : (volatileUnlock req s).slotDbg = s.slotDbg := by unfold volatileUnlock; split <;> simp
@[simp] theorem volatileUnlock_owner (req : Requester) (s : State) : (volatileUnlock req s).owner = s.owner := by unfold volatileUnlock; split <;> simp
@[simp] theorem volatileUnlock_ctrl (req : Requester) (s : State) : (volatileUnlock req s).ctrl = s.ctrl := by unfold volatileUnlock; split <;> simp
@[simp] theorem volatileUnlock_claimRegwen (req : Requester) (s : State) : (volatileUnlock req s).claimRegwen = s.claimRegwen := by unfold volatileUnlock; split <;> simp
@[simp] theorem volatileUnlock_idState (req : Requester) (s : State) : (volatileUnlock req s).idState = s.idState := by unfold volatileUnlock; split <;> simp
@[simp] theorem volatileUnlock_tokens (req : Requester) (s : State) : (volatileUnlock req s).tokens = s.tokens := by unfold volatileUnlock; split <;> simp
@[simp] theorem volatileUnlock_hashState (req : Requester) (s : State) : (volatileUnlock req s).hashState = s.hashState := by unfold volatileUnlock; split <;> simp
@[simp] theorem volatileUnlock_hashReq (req : Requester) (s : State) : (volatileUnlock req s).hashReq = s.hashReq := by unfold volatileUnlock; split <;> simp
@[simp] theorem volatileUnlock_digest (req : Requester) (s : State) : (volatileUnlock req s).digest = s.digest := by unfold volatileUnlock; split <;> simp
@[simp] theorem volatileUnlock_otpPending (req : Requester) (s : State) : (volatileUnlock req s).otpPending = s.otpPending := by unfold volatileUnlock; split <;> simp
@[simp] theorem volatileUnlock_xactReq (req : Requester) (s : State) : (volatileUnlock req s).xactReq = s.xactReq := by unfold volatileUnlock; split <;> simp
@[simp] theorem volatileUnlock_initErr (req : Requester) (s : State) : (volatileUnlock req s).initErr = s.initErr := by unfold volatileUnlock; split <;> simp
@[simp] theorem volatileUnlock_clkBypReq (req : Requester) (s : State) : (volatileUnlock req s).clkBypReq = s.clkBypReq := by unfold volatileUnlock; split <;> simp
@[simp] theorem volatileUnlock_inputs (req : Requester) (s : State) : (volatileUnlock req s).inputs = s.inputs := by unfold volatileUnlock; split <;> simp
@[simp] theorem volatileUnlock_otpAccept (req : Requester) (s : State) : (volatileUnlock req s).otpAccept = s.otpAccept := by unfold volatileUnlock; split <;> simp
@[simp] theorem volatileUnlock_rdata (req : Requester) (s : State) : (volatileUnlock req s).rdata = s.rdata := by unfold volatileUnlock; split <;> simp
@[simp] theorem volatileUnlock_emitted (req : Requester) (s : State) : (volatileUnlock req s).emitted = s.emitted := by unfold volatileUnlock; split <;> simp
@[simp] theorem volatileUnlock_freeCtr (req : Requester) (s : State) : (volatileUnlock req s).freeCtr = s.freeCtr := by unfold volatileUnlock; split <;> simp

@[simp] theorem setSlot_slot_self (s : State) (req : Requester) (v : Slot) : (s.setSlot req v).slot req = v := by
  cases req <;> rfl

@[simp] theorem setSlot_slot_other (s : State) (req : Requester) (v : Slot) :
    (s.setSlot req v).slot req.other = s.slot req.other := by
  cases req <;> rfl

theorem slot_congr {s t : State} (h1 : t.slotSw = s.slotSw) (h2 : t.slotDbg = s.slotDbg) (req : Requester) :
    t.slot req = s.slot req := by
  cases req
  · exact h1
  · exact h2

/-- The clock request as one update (R142). -/
theorem requestClock_eq (t : Option LcState) (s : State) :
    requestClock t s =
      { s with
        clkBypReq := s.clkBypReq || (s.ctrl.extClockEn && clockFamily t)
        status := { s.status with extClockSwitched := s.status.extClockSwitched || (s.ctrl.extClockEn && clockFamily t) } } := by
  unfold requestClock
  cases s.ctrl.extClockEn && clockFamily t <;> simp

@[simp] theorem requestClock_clkBypReq (t : Option LcState) (s : State) :
    (requestClock t s).clkBypReq = (s.clkBypReq || (s.ctrl.extClockEn && clockFamily t)) := by
  rw [requestClock_eq]

@[simp] theorem requestClock_status (t : Option LcState) (s : State) :
    (requestClock t s).status =
      { s.status with extClockSwitched := s.status.extClockSwitched || (s.ctrl.extClockEn && clockFamily t) } := by
  rw [requestClock_eq]

@[simp] theorem requestClock_slot (t : Option LcState) (s : State) (req : Requester) :
    (requestClock t s).slot req = s.slot req := slot_congr (by simp) (by simp) req

@[simp] theorem raiseOp_slot (e : OpErr) (s : State) (req : Requester) : (raiseOp e s).slot req = s.slot req :=
  slot_congr rfl rfl req

@[simp] theorem note_slot (s : State) (d : Diag) (req : Requester) : (s.note d).slot req = s.slot req :=
  slot_congr rfl rfl req

@[simp] theorem reply_slot (s : State) (v : Word) (req : Requester) : (s.reply v).slot req = s.slot req :=
  slot_congr rfl rfl req

@[simp] theorem withError_initialized (st : Status) (e : OpErr) : (st.withError e).initialized = st.initialized := by
  cases e <;> rfl

@[simp] theorem withError_stateError (st : Status) (e : OpErr) : (st.withError e).stateError = st.stateError := by
  cases e <;> rfl

@[simp] theorem withError_transitionSuccessful (st : Status) (e : OpErr) :
    (st.withError e).transitionSuccessful = st.transitionSuccessful := by
  cases e <;> rfl

@[simp] theorem withError_extClockSwitched (st : Status) (e : OpErr) :
    (st.withError e).extClockSwitched = st.extClockSwitched := by
  cases e <;> rfl

end Sys2Proof.Machine
end

