-- ==== Sys2Proof/Laws/Ops.lean ====
section
/-! SUPPORT. For each shared operation one lemma that says once everything it can do. A proof about an instruction cites these and unfolds no operation. -/

namespace Sys2Proof.Machine

theorem transRegwen_iff (s : State) (req : Requester) :
    s.transRegwen req = true ↔ s.owner = some req ∧ s.fsm = .idle := by
  simp [State.transRegwen]

theorem rearm_cases (s : State) :
    (s.fsm = .postTrans ∧ rearm s = { s with fsm := .idle }) ∨ (s.fsm ≠ .postTrans ∧ rearm s = s) := by
  cases h : s.fsm <;> simp [rearm, h]

/-- R137: a free mutex is taken (and POST_TRANS re-armed), an owned one is left as it is. -/
theorem claim_cases (req : Requester) (s : State) :
    (s.owner = none ∧ claim req s = (true, rearm { s with owner := some req })) ∨
    (s.owner = some req ∧ claim req s = (true, s)) ∨
    (s.owner = some req.other ∧ claim req s = (false, s)) := by
  cases h : s.owner with
  | none => simp [claim, h]
  | some r => cases r <;> cases req <;> simp [claim, h, Requester.other]

theorem release_cases (req : Requester) (s : State) :
    (s.owner = some req ∧ release req s = { s with owner := none }) ∨ (s.owner ≠ some req ∧ release req s = s) := by
  by_cases h : s.owner = some req <;> simp [release, h]

/-- R48: an accepted request waits for its acknowledge, a refused one is an OTP error. -/
theorem programReq_cases (a b : EncString) (s : State) :
    (s.otpAccept = true ∧ programReq a b s = { s.emit (.programReq a b) with otpPending := true }) ∨
    (s.otpAccept = false ∧ programReq a b s = raiseOp .otp (s.emit (.programReq a b))) := by
  cases h : s.otpAccept <;> simp [programReq, h]

theorem requestHash_next {c : Config} {req : Requester} {s t : State} (h : requestHash c req s = .next t) :
    s.hashState = .hIdle ∧
      t = { s.emit (.hashRequest c.kmacAppId (chunk ((s.slot req).half 0)) false) with
            hashReq := req, hashState := .hFirstSent } := by
  unfold requestHash at h
  split at h
  · exact ⟨‹_›, (Host.Outcome.next.inj h).symm⟩
  · cases h
  · cases h

theorem noteUnset_cases (k : TokenKind) (s : State) :
    noteUnset k s = s ∨ noteUnset k s = s.note .unsetTokenKind := by
  unfold noteUnset; split <;> simp

/-- R97: what a match says. -/
theorem matchToken_iff (ts : TokenStore) (d : Token) (k : TokenKind) :
    matchToken ts d k = true ↔
      ∃ e, ts.entry k = some e ∧ e.valid = true ∧ half d 0 = half e.hashed 0 ∧ half d 1 = half e.hashed 1 := by
  cases h : ts.entry k with
  | none => simp [matchToken, h]
  | some e => simp [matchToken, h, and_assoc]

/-- R94: a kind other than INVALID needs two real states. -/
theorem requiredTokenFor_ne_invalid {m : LcState → LcState → TokenKind} {f : LcStateVal} {t : Option LcState}
    (h : requiredTokenFor m f t ≠ .invalid) : ∃ lf lt, f = .real lf ∧ t = some lt ∧ m lf lt ≠ .invalid := by
  cases f with
  | lcsInvalid => exact absurd rfl h
  | real lf =>
    cases t with
    | none => exact absurd rfl h
    | some lt => exact ⟨lf, lt, rfl, rfl, h⟩

/-- The volatile path (R141): success leaves IDLE as it is, a mismatch is a token error. -/
theorem volatileUnlock_cases (req : Requester) (s : State) :
    (matchToken s.tokens (s.slot req).assembled .rawUnlock = true ∧
      volatileUnlock req s =
        { s with
          lcState := .real .testUnlocked0
          volUnlock := true
          status := { s.status with transitionSuccessful := true } }) ∨
    (matchToken s.tokens (s.slot req).assembled .rawUnlock = false ∧
      volatileUnlock req s = raiseOp .token (noteUnset .rawUnlock s)) := by
  cases h : matchToken s.tokens (s.slot req).assembled .rawUnlock <;> simp [volatileUnlock, h]

theorem cntProg_next {c : Config} {s t : State} (h : cntProg c s = .next t) :
    ∃ l n, s.lcState = .real l ∧ s.lcCnt = .count n ∧ t = programReq (c.lcStateTable l) (c.lcCntTable n) s := by
  unfold cntProg at h
  split at h
  · cases h
  · split at h
    · cases h
    · exact ⟨_, _, ‹_›, ‹_›, (Host.Outcome.next.inj h).symm⟩

theorem cntIncr_next {c : Config} {tgt : Option LcState} {s t : State} (h : cntIncr c tgt s = .next t) :
    ∃ n, s.lcCnt = .count n ∧
      ((24 ≤ n.val ∧ t = raiseOp .transitionCount s) ∨
       (n.val < 24 ∧ ∃ l, s.lcState = .real l ∧
          t = programReq (c.lcStateTable l) (c.lcCntTable (nextCount tgt n))
                { s with lcCnt := .count (nextCount tgt n), fsm := .cntProg })) := by
  unfold cntIncr at h
  split at h
  · cases h
  · rename_i n hn
    refine ⟨n, hn, ?_⟩
    split at h
    · rename_i hle
      exact .inl ⟨hle, (Host.Outcome.next.inj h).symm⟩
    · rename_i hlt
      obtain ⟨l, m, hl, hm, rfl⟩ := cntProg_next h
      cases hm
      exact .inr ⟨by simp only [Config.cntMax] at hlt; omega, l, hl, rfl⟩

/-- The state in which CNT_INCR works: the start is accepted, the clock request has been made (R140, R142). -/
def started (req : Requester) (s : State) : State :=
  { requestClock { s with xactReq := req }.tgt { s with xactReq := req } with fsm := .cntIncr }

@[simp] theorem tgt_of_xactReq (s : State) (req : Requester) :
    State.tgt { s with xactReq := req } = decodeTarget (s.slot req).target := by
  cases req <;> rfl

/-- R140: everything a start can do. -/
theorem start_cases (c : Config) (req : Requester) (s : State) :
    (s.transRegwen req = false ∧ start c req s = .next (guestError s)) ∨
    (s.transRegwen req = true ∧ volatileCond (decodeTarget (s.slot req).target) s = true ∧
      start c req s = .next (volatileUnlock req { s with xactReq := req })) ∨
    (s.transRegwen req = true ∧ volatileCond (decodeTarget (s.slot req).target) s = false ∧
      start c req s = cntIncr c (decodeTarget (s.slot req).target) (started req s)) := by
  cases hg : s.transRegwen req with
  | false => exact .inl ⟨rfl, by simp [start, hg]⟩
  | true =>
    refine .inr ?_
    have hv : volatileCond (decodeTarget (s.slot req).target) { s with xactReq := req }
        = volatileCond (decodeTarget (s.slot req).target) s := rfl
    cases hc : volatileCond (decodeTarget (s.slot req).target) s with
    | true => exact .inl ⟨rfl, rfl, by simp [start, hg, hv, hc]⟩
    | false =>
      refine .inr ⟨rfl, rfl, ?_⟩
      simp only [start, hg, if_true, tgt_of_xactReq, hv, hc, clkMux, started]
      simp only [Bool.false_eq_true, if_false]
      congr 1
      cases hx : s.ctrl.extClockEn <;> cases hf : clockFamily (decodeTarget (s.slot req).target) <;>
        simp [requestClock, hx, hf]

theorem transCheck_cases (c : Config) (s : State) :
    (requiredTokenFor c.transMatrix s.lcState s.tgt = .invalid ∧ transCheck c s = .next (raiseOp .transition s)) ∨
    (requiredTokenFor c.transMatrix s.lcState s.tgt ≠ .invalid ∧
      transCheck c s = requestHash c s.xactReq { s with fsm := .tokenHash }) := by
  by_cases h : requiredTokenFor c.transMatrix s.lcState s.tgt = .invalid <;> simp [transCheck, h]

theorem transProg_next {c : Config} {s t : State} (h : transProg c s = .next t) :
    ∃ l n, s.tgt = some l ∧ s.lcCnt = .count n ∧ t = programReq (c.lcStateTable l) (c.lcCntTable n) s := by
  unfold transProg at h
  split at h
  · cases h
  · split at h
    · cases h
    · exact ⟨_, _, ‹_›, ‹_›, (Host.Outcome.next.inj h).symm⟩

/-- R150: everything the resumption can do. -/
theorem resumeFromHash_cases (c : Config) (s : State) :
    (requiredTokenFor c.transMatrix s.lcState s.tgt = .invalid ∧
      resumeFromHash c s = .next (raiseOp .transition { s with fsm := .tokenCheck })) ∨
    (requiredTokenFor c.transMatrix s.lcState s.tgt ≠ .invalid ∧
      matchToken s.tokens s.digest (requiredTokenFor c.transMatrix s.lcState s.tgt) = true ∧
      resumeFromHash c s = transProg c { s with fsm := .transProg }) ∨
    (requiredTokenFor c.transMatrix s.lcState s.tgt ≠ .invalid ∧
      matchToken s.tokens s.digest (requiredTokenFor c.transMatrix s.lcState s.tgt) = false ∧
      resumeFromHash c s =
        .next (raiseOp .token
          (noteUnset (requiredTokenFor c.transMatrix s.lcState s.tgt) { s with fsm := .tokenCheck }))) := by
  have ht : State.tgt { s with fsm := .tokenCheck } = s.tgt := by
    unfold State.tgt; cases s.xactReq <;> rfl
  by_cases hk : requiredTokenFor c.transMatrix s.lcState s.tgt = .invalid
  · exact .inl ⟨hk, by simp only [resumeFromHash, ht, hk, if_true]⟩
  · refine .inr ?_
    cases hm : matchToken s.tokens s.digest (requiredTokenFor c.transMatrix s.lcState s.tgt) with
    | true => exact .inl ⟨hk, rfl, by simp only [resumeFromHash, ht, hk, hm, if_true, if_false]⟩
    | false => exact .inr ⟨hk, rfl, by simp only [resumeFromHash, ht, hk, hm, if_false, Bool.false_eq_true]⟩

/-- R152: everything the acknowledge of the state commit can do. -/
theorem ackTransProg_next {ok : Bool} {s t : State} (h : ackTransProg ok s = .next t) :
    (ok = false ∧ t = raiseOp .otp s) ∨
    (ok = true ∧ ∃ l, s.tgt = some l ∧
      t = { s with
            lcState := .real l
            status := { s.status with transitionSuccessful := true }
            fsm := committedFsm l }) := by
  cases ok with
  | false => exact .inl ⟨rfl, by simpa [ackTransProg, eq_comm] using h⟩
  | true =>
    refine .inr ⟨rfl, ?_⟩
    simp only [ackTransProg, if_true] at h
    split at h
    · cases h
    · exact ⟨_, ‹_›, (Host.Outcome.next.inj h).symm⟩

/-- R146, R158: everything an acknowledge can do. -/
theorem otpAck_next {c : Config} {ok : Bool} {s t : State} (h : otpAck c ok s = .next t) :
    (s.otpPending = false ∧ t = s) ∨
    (s.otpPending = true ∧ s.fsm = .cntProg ∧ ackCntProg c ok { s with otpPending := false } = .next t) ∨
    (s.otpPending = true ∧ s.fsm = .transProg ∧ ackTransProg ok { s with otpPending := false } = .next t) ∨
    (s.otpPending = true ∧ s.fsm = .escalate ∧ t = { s with otpPending := false }) := by
  unfold otpAck at h
  split at h
  · rename_i hp
    dsimp only at h
    cases hf : s.fsm <;> rw [hf] at h <;> dsimp only at h <;> first
      | (cases h; done)
      | exact .inr (.inl ⟨hp, rfl, h⟩)
      | exact .inr (.inr (.inl ⟨hp, rfl, h⟩))
      | exact .inr (.inr (.inr ⟨hp, rfl, (Host.Outcome.next.inj h).symm⟩))
  · rename_i hp
    exact .inl ⟨by simpa using hp, (Host.Outcome.next.inj h).symm⟩

/-- R105 to R108: everything a hash response can do. -/
theorem hashRsp_next {c : Config} {a b : Token} {d : Bool} {s t : State} (h : hashRsp c a b d s = .next t) :
    (s.hashState = .hIdle ∧ t = s) ∨
    (s.hashState = .hFirstSent ∧ d = false ∧ t = requestSecondHalf c s) ∨
    (s.hashState = .hSecondSent ∧ d = true ∧ s.fsm ≠ .tokenHash ∧ t = storeDigest a b s) ∨
    (s.hashState = .hSecondSent ∧ d = true ∧ s.fsm = .tokenHash ∧ resumeFromHash c (storeDigest a b s) = .next t) := by
  unfold hashRsp at h
  split at h
  · exact .inl ⟨‹_›, (Host.Outcome.next.inj h).symm⟩
  · cases d with
    | true => simp at h
    | false => exact .inr (.inl ⟨‹_›, rfl, by simpa [eq_comm] using h⟩)
  · cases d with
    | false => simp at h
    | true =>
      simp only [if_true] at h
      by_cases hf : s.fsm = .tokenHash
      · exact .inr (.inr (.inr ⟨‹_›, rfl, hf, by simpa [hf] using h⟩))
      · exact .inr (.inr (.inl ⟨‹_›, rfl, hf, by
          rw [if_neg (show (storeDigest a b s).fsm ≠ .tokenHash from hf)] at h
          exact (Host.Outcome.next.inj h).symm⟩))

/-- R115, R130: INIT acts in RESET only. -/
theorem initReaction_cases (c : Config) (info : OtpInfo) (fr : Bool) (s : State) :
    (s.fsm ≠ .reset ∧ initReaction c info fr s = s) ∨
    (s.fsm = .reset ∧
      initReaction c info fr s =
        { s with
          lcState := (loadInitialState c info fr).st
          lcCnt := (loadInitialState c info fr).cnt
          idState := (loadInitialState c info fr).ids
          initErr := (loadInitialState c info fr).err
          tokens := { s.tokens with testUnlock := info.testUnlock, testExit := info.testExit, rma := info.rma }
          status := { s.status with
            initialized := true
            stateError := s.status.stateError || ((loadInitialState c info fr).err != 0#6) }
          fsm := classify (loadInitialState c info fr) }) := by
  cases h : s.fsm <;> simp [initReaction, h]

/-- R183, R191, R193, R201: a gated write either happens or is a guest error. -/
theorem claimRegwenWrite_cases (req : Requester) (w : Word) (s : State) :
    claimRegwenWrite req w s = s ∨ claimRegwenWrite req w s = guestError s ∨
    (s.transRegwen req = true ∧ claimRegwenWrite req w s = { s with claimRegwen := false }) := by
  unfold claimRegwenWrite
  cases w.getLsbD 0 <;> cases h : s.transRegwen req <;> simp

theorem ctrlWrite_cases (req : Requester) (w : Word) (s : State) :
    (s.transRegwen req = false ∧ ctrlWrite req w s = guestError s) ∨
    (s.transRegwen req = true ∧ ctrlWrite req w s = { s with ctrl := ⟨w.getLsbD 0, w.getLsbD 1⟩ }) := by
  cases h : s.transRegwen req <;> simp [ctrlWrite, h]

theorem tokenWrite_cases (req : Requester) (i : Fin 4) (w : Word) (s : State) :
    (s.transRegwen req = false ∧ tokenWrite req i w s = guestError s) ∨
    (s.transRegwen req = true ∧ tokenWrite req i w s = s.setSlot req ((s.slot req).setToken i w)) := by
  cases h : s.transRegwen req <;> simp [tokenWrite, h]

theorem targetWrite_cases (req : Requester) (w : Word) (s : State) :
    (s.transRegwen req = false ∧ targetWrite req w s = guestError s) ∨
    (s.transRegwen req = true ∧
      targetWrite req w s = s.setSlot req { s.slot req with target := (w.extractLsb' 0 30).zeroExtend 32 }) := by
  cases h : s.transRegwen req <;> simp [targetWrite, h]

/-- R185: everything a write of the claim register can do. -/
theorem claimWrite_cases (req : Requester) (w : Word) (s : State) :
    (s.claimRegwen = false ∧ claimWrite req w s = guestError s) ∨
    (s.claimRegwen = true ∧ w.extractLsb' 0 8 = 0x96#8 ∧ claimWrite req w s = (claim req s).2) ∨
    (s.claimRegwen = true ∧ w.extractLsb' 0 8 ≠ 0x96#8 ∧ claimWrite req w s = release req s) := by
  cases h : s.claimRegwen
  · exact .inl ⟨rfl, by simp [claimWrite, h]⟩
  · by_cases hw : w.extractLsb' 0 8 = 0x96#8
    · exact .inr (.inl ⟨rfl, hw, by simp [claimWrite, h, hw, mubi8True]⟩)
    · exact .inr (.inr ⟨rfl, hw, by simp [claimWrite, h, hw, mubi8True]⟩)

theorem replyView_cases (view : Option Word) (v : Word) (s : State) :
    replyView view v s = s.reply v ∨ replyView view v s = s.drawn.reply v := by
  cases view <;> simp [replyView]

/-- R118: a table entry decodes to its own state. -/
theorem decodeState_table {c : Config} (hc : c.WellFormed) (l : LcState) : decodeState c (c.lcStateTable l) = .real l := by
  unfold decodeState
  cases h : LcState.all.find? (fun l' => c.lcStateTable l == c.lcStateTable l') with
  | none =>
    have hl : l ∈ LcState.all := by cases l <;> decide
    have := List.find?_eq_none.1 h l hl
    simp at this
  | some l' =>
    have := List.find?_some h
    rw [hc.state_table_distinct l l' (by simpa using this)]

/-- R119: a table entry decodes to its own count. -/
theorem decodeCnt_table {c : Config} (hc : c.WellFormed) (k : Fin 25) : decodeCnt c (c.lcCntTable k) = .count k := by
  unfold decodeCnt
  cases h : (List.finRange 25).find? (fun k' => c.lcCntTable k == c.lcCntTable k') with
  | none =>
    have := List.find?_eq_none.1 h k (List.mem_finRange k)
    simp at this
  | some k' =>
    have := List.find?_some h
    rw [hc.cnt_table_distinct k k' (by simpa using this)]

/-- R118: a string of another word count than the configuration's is no table entry (log entry 30). -/
theorem decodeState_of_length {c : Config} (hc : c.WellFormed) {e : EncString} (h : e.length ≠ c.lcStateWords) :
    decodeState c e = .lcsInvalid := by
  have hn : LcState.all.find? (fun l => e == c.lcStateTable l) = none := by
    simp only [List.find?_eq_none, beq_iff_eq]
    exact fun l _ he => h (he ▸ hc.state_entry_words l)
  simp [decodeState, hn]

/-- R119: a string of another word count than the configuration's is no table entry (log entry 30). -/
theorem decodeCnt_of_length {c : Config} (hc : c.WellFormed) {e : EncString} (h : e.length ≠ c.lcCntWords) :
    decodeCnt c e = .cntInvalid := by
  have hn : (List.finRange 25).find? (fun k => e == c.lcCntTable k) = none := by
    simp only [List.find?_eq_none, beq_iff_eq]
    exact fun k _ he => h (he ▸ hc.cnt_entry_words k)
  simp [decodeCnt, hn]

/-- Bit i of a string of six bits is the i-th of them. -/
theorem six_bits (b0 b1 b2 b3 b4 b5 : Bool) :
    let x : BitVec 6 := BitVec.ofBool b5 ++ BitVec.ofBool b4 ++ BitVec.ofBool b3 ++ BitVec.ofBool b2 ++ BitVec.ofBool b1
      ++ BitVec.ofBool b0
    x.getLsbD 0 = b0 ∧ x.getLsbD 1 = b1 ∧ x.getLsbD 2 = b2 ∧ x.getLsbD 3 = b3 ∧ x.getLsbD 4 = b4 ∧ x.getLsbD 5 = b5 := by
  cases b0 <;> cases b1 <;> cases b2 <;> cases b3 <;> cases b4 <;> cases b5 <;> decide

/-- R121: check i is bit i of the error bitmap. -/
theorem loadInitialState_err (c : Config) (info : OtpInfo) (fr : Bool) :
    let r := loadInitialState c info fr
    r.err.getLsbD 0 = check0 r.st info ∧ r.err.getLsbD 1 = check1 c info ∧ r.err.getLsbD 2 = check2 r.cnt ∧
    r.err.getLsbD 3 = check3 info ∧ r.err.getLsbD 4 = check4 r.st r.cnt ∧ r.err.getLsbD 5 = check5 c r.ids r.st info :=
  six_bits _ _ _ _ _ _

/-- R107: the recombined digest is the exclusive-or of the two shares. -/
theorem recombine_eq_xor (a b : Token) : recombine a b = a ^^^ b := by
  apply BitVec.eq_of_getLsbD_eq
  intro j hj
  simp only [recombine, joinHalves, half, BitVec.getLsbD_append, BitVec.getLsbD_xor, BitVec.getLsbD_extractLsb']
  by_cases h1 : j < 64
  · simp [h1]
  · have h2 : j - 64 < 64 := by omega
    have h3 : 64 + (j - 64) = j := by omega
    simp [h1, h2, h3]

end Sys2Proof.Machine
end

