-- ==== Sys2Proof/Laws/Encoding.lean ====
section
/-! SUPPORT. The fields of the BUS word that the encoder writes are the fields the decoder reads (R61), and the pseudo-stimuli's parts of the write data. -/

namespace Sys2Proof

/-- The low part of two parts put together. -/
@[simp] theorem append_low {m k : Nat} (hi : BitVec m) (lo : BitVec k) : (hi ++ lo).extractLsb' 0 k = lo := by
  apply BitVec.eq_of_getLsbD_eq
  intro i h
  simp only [BitVec.getLsbD_extractLsb', BitVec.getLsbD_append, Nat.zero_add, h, decide_true, Bool.true_and, if_true]

/-- The high part of two parts put together. -/
@[simp] theorem append_high {m k : Nat} (hi : BitVec m) (lo : BitVec k) : (hi ++ lo).extractLsb' k m = hi := by
  apply BitVec.eq_of_getLsbD_eq
  intro i h
  have h1 : ¬ (k + i < k) := by omega
  simp only [BitVec.getLsbD_extractLsb', BitVec.getLsbD_append, h, decide_true, Bool.true_and, h1, if_false,
    Nat.add_sub_cancel_left]

/-- Bit `i` of a BUS word of four given fields (R61). -/
theorem busWord_bit (req : Requester) (we : Bool) (off : BitVec 8) (w : Word) (i : Nat) :
    (busWord req we off w).getLsbD i
      = if i < 32 then w.getLsbD i else if i < 40 then off.getLsbD (i - 32)
        else if i = 40 then we else if i = 41 then (req == .dbg) else false := by
  simp only [busWord, BitVec.getLsbD_append, BitVec.getLsbD_ofBool]
  by_cases h1 : i < 32
  · simp only [h1, if_true]
  · by_cases h2 : i < 40
    · have h3 : i - 32 < 8 := by omega
      simp only [h1, h2, h3, if_true, if_false]
    · have h3 : ¬ (i - 32 < 8) := by omega
      simp only [h1, h2, h3, if_false]
      by_cases h4 : i = 40
      · subst h4; simp
      · by_cases h5 : i = 41
        · subst h5; simp
        · have h6 : ¬ (i - 32 - 8 < 1) := by omega
          have h7 : i - 32 - 8 - 1 ≠ 0 := by omega
          simp only [h4, h5, h6, h7, if_false, decide_false, Bool.false_and]

@[simp] theorem busIfc_busWord (req : Requester) (we : Bool) (off : BitVec 8) (w : Word) :
    busIfc (busWord req we off w) = req := by
  simp only [busIfc, busWord_bit]
  cases req <;> rfl

@[simp] theorem busWe_busWord (req : Requester) (we : Bool) (off : BitVec 8) (w : Word) :
    busWe (busWord req we off w) = we := by
  simp only [busWe, busWord_bit]
  rfl

@[simp] theorem busOff_busWord (req : Requester) (we : Bool) (off : BitVec 8) (w : Word) :
    busOff (busWord req we off w) = off := by
  apply BitVec.eq_of_getLsbD_eq
  intro i hi
  have h1 : ¬ (32 + i < 32) := by omega
  have h2 : 32 + i < 40 := by omega
  simp only [busOff, BitVec.getLsbD_extractLsb', busWord_bit, hi, h1, h2, decide_true, Bool.true_and, if_true, if_false,
    Nat.add_sub_cancel_left]

@[simp] theorem busWdata_busWord (req : Requester) (we : Bool) (off : BitVec 8) (w : Word) :
    busWdata (busWord req we off w) = w := by
  apply BitVec.eq_of_getLsbD_eq
  intro i hi
  simp only [busWdata, BitVec.getLsbD_extractLsb', busWord_bit, Nat.zero_add, hi, decide_true, Bool.true_and, if_true]

/-- A word is put together from its fields (R61). -/
theorem busWord_fields (w : BusWord) : busWord (busIfc w) (busWe w) (busOff w) (busWdata w) = w := by
  apply BitVec.eq_of_getLsbD_eq
  intro i hi
  rw [busWord_bit]
  by_cases h1 : i < 32
  · simp only [h1, if_true, busWdata, BitVec.getLsbD_extractLsb', decide_true, Bool.true_and, Nat.zero_add]
  · by_cases h2 : i < 40
    · have h3 : i - 32 < 8 := by omega
      have h4 : 32 + (i - 32) = i := by omega
      simp only [h1, h2, if_true, if_false, busOff, BitVec.getLsbD_extractLsb', h3, h4, decide_true, Bool.true_and]
    · have h5 : i = 40 ∨ i = 41 := by omega
      rcases h5 with rfl | rfl
      · rfl
      · have h6 : (busIfc w == .dbg) = w.getLsbD 41 := by
          unfold busIfc; cases w.getLsbD 41 <;> rfl
        simpa using h6

/-- Decoding a BUS word of four given fields with an aligned offset. -/
theorem decode_busWord (req : Requester) (we : Bool) (off : BitVec 8) (w : Word) (h : offAligned off = true) :
    decode (.bus .word (busWord req we off w))
      = .ok (if we then decodeWrite req off w else decodeRead req off) := by
  simp only [decode, decodeBus, busOff_busWord, busWe_busWord, busIfc_busWord, busWdata_busWord, h, if_true]

end Sys2Proof
end

