-- ==== Sys2Proof/Laws/Exec.lean ====
section
/-! SUPPORT. Everything an instruction can do, said once over all 87 constructors: a proof about `exec` or `step` cites `exec_effect` and cases on twelve effects,
not on 87 instructions. -/

namespace Sys2Proof.Machine

/-- What a next state of `exec` can be. -/
inductive Effect (i : Instr) (s t : State) : Prop where
  /-- Reads, guest errors and defined no-ops: no element of R10 changes. -/
  | quiet (v : Option Word) (dg : List Diag) (n : Nat)
      (ht : t = { s with rdata := v, diag := dg, freeCtr := n })
  /-- A claim that finds the mutex free (R137, R139). -/
  | claimed (req : Requester) (hi : claimReq i = some req) (hr : s.claimRegwen = true) (ho : s.owner = none)
      (ht : t = rearm { s with owner := some req })
  /-- A release by the owner (R138). -/
  | released (req : Requester) (hi : releaseReq i = some req) (hr : s.claimRegwen = true) (ho : s.owner = some req)
      (ht : t = { s with owner := none })
  /-- The claim write-enable is cleared (R183). -/
  | locked (req : Requester) (hi : stimulusReq i = some req) (hg : s.transRegwen req = true)
      (ht : t = { s with claimRegwen := false })
  /-- The control register is written (R191). -/
  | control (req : Requester) (v : Ctrl) (hi : stimulusReq i = some req) (hg : s.transRegwen req = true)
      (ht : t = { s with ctrl := v })
  /-- The writer's own slot is written (R193, R201). -/
  | slotWritten (req : Requester) (v : Slot) (hi : stimulusReq i = some req) (hg : s.transRegwen req = true)
      (hv : v.target = (s.slot req).target ∨ v.target.extractLsb' 30 2 = 0#2)
      (ht : t = s.setSlot req v)
  /-- An accepted start (R140). -/
  | started (req : Requester) (hi : commandReq i = some req) (hg : s.transRegwen req = true)
      (ht : start device req s = .next t)
  | acknowledged (ok : Bool) (hi : i = .otpAck ok) (ht : otpAck device ok s = .next t)
  | responded (a b : Token) (d : Bool) (hi : i = .hashRsp a b d) (ht : hashRsp device a b d s = .next t)
  | initialized (info : OtpInfo) (fr : Bool) (hi : i = .init info fr) (ht : t = initReaction device info fr s)
  | wasReset (hi : i = .reset) (ht : t = resetReaction s)
  | escalated (hi : i = .escalate) (ht : t = { s with fsm := .escalate })

/-- What the guest error, the reply and the no-op have in common. -/
theorem Effect.of_guestError {i : Instr} {s t : State} (h : t = guestError s) : Effect i s t :=
  .quiet s.rdata (s.diag ++ [Diag.guestError]) s.freeCtr h

theorem Effect.of_eq {i : Instr} {s t : State} (h : t = s) : Effect i s t :=
  .quiet s.rdata s.diag s.freeCtr h

theorem Effect.of_reply {i : Instr} {s t : State} {v : Word} (h : t = s.reply v) : Effect i s t :=
  .quiet (some v) s.diag s.freeCtr h

theorem Effect.of_guestErrorRead {i : Instr} {s t : State} (h : t = guestErrorRead s) : Effect i s t :=
  .quiet (some 0#32) (s.diag ++ [Diag.guestError]) s.freeCtr h

theorem Effect.of_replyView {i : Instr} {s t : State} {view : Option Word} {v : Word} (h : t = replyView view v s) :
    Effect i s t := by
  rcases replyView_cases view v s with h' | h' <;> rw [h'] at h
  · exact .quiet (some v) s.diag s.freeCtr h
  · exact .quiet (some v) s.diag (s.freeCtr + 1) h

theorem Effect.of_claim {i : Instr} {s t : State} {req : Requester} (hi : claimReq i = some req)
    (hr : s.claimRegwen = true) (h : t = (claim req s).2) : Effect i s t := by
  rcases claim_cases req s with ⟨ho, h'⟩ | ⟨_, h'⟩ | ⟨_, h'⟩ <;> rw [h'] at h
  · exact .claimed req hi hr ho h
  · exact .of_eq h
  · exact .of_eq h

theorem Effect.of_release {i : Instr} {s t : State} {req : Requester} (hi : releaseReq i = some req)
    (hr : s.claimRegwen = true) (h : t = release req s) : Effect i s t := by
  rcases release_cases req s with ⟨ho, h'⟩ | ⟨_, h'⟩ <;> rw [h'] at h
  · exact .released req hi hr ho h
  · exact .of_eq h

theorem Effect.of_start {i : Instr} {s t : State} {req : Requester} (hi : commandReq i = some req)
    (h : start device req s = .next t) : Effect i s t := by
  rcases start_cases device req s with ⟨_, h'⟩ | ⟨hg, _, _⟩ | ⟨hg, _, _⟩
  · rw [h'] at h
    exact .of_guestError (Host.Outcome.next.inj h).symm
  · exact .started req hi hg h
  · exact .started req hi hg h

theorem Effect.of_claimWrite {s t : State} {req : Requester} {w : Word} (h : t = claimWrite req w s) :
    Effect (.wrClaimTransitionIf req w) s t := by
  rcases claimWrite_cases req w s with ⟨_, h'⟩ | ⟨hr, hw, h'⟩ | ⟨hr, hw, h'⟩ <;> rw [h'] at h
  · exact .of_guestError h
  · exact .of_claim (by simp only [claimReq, hw, if_true]) hr h
  · exact .of_release (by simp only [releaseReq, hw, if_false]) hr h

theorem setToken_target (v : Slot) (n : Fin 4) (w : Word) : (v.setToken n w).target = v.target := by
  unfold Slot.setToken; split <;> rfl

theorem Effect.of_tokenWrite {i : Instr} {s t : State} {req : Requester} {n : Fin 4} {w : Word}
    (hi : stimulusReq i = some req) (h : t = tokenWrite req n w s) : Effect i s t := by
  rcases tokenWrite_cases req n w s with ⟨_, h'⟩ | ⟨hg, h'⟩ <;> rw [h'] at h
  · exact .of_guestError h
  · exact .slotWritten req _ hi hg (.inl (setToken_target _ _ _)) h

theorem low30_high (w : Word) : ((w.extractLsb' 0 30).zeroExtend 32 : Word).extractLsb' 30 2 = 0#2 := by
  apply BitVec.eq_of_getLsbD_eq
  intro n hn
  have h1 : ¬ (30 + n < 30) := by omega
  simp only [BitVec.zeroExtend, BitVec.getLsbD_extractLsb', BitVec.getLsbD_setWidth, h1, decide_false, Bool.false_and,
    Bool.and_false, BitVec.getLsbD_zero]

theorem Effect.of_targetWrite {i : Instr} {s t : State} {req : Requester} {w : Word}
    (hi : stimulusReq i = some req) (h : t = targetWrite req w s) : Effect i s t := by
  rcases targetWrite_cases req w s with ⟨_, h'⟩ | ⟨hg, h'⟩ <;> rw [h'] at h
  · exact .of_guestError h
  · refine .slotWritten req _ hi hg (.inr ?_) h
    exact low30_high w

theorem Effect.of_ctrlWrite {i : Instr} {s t : State} {req : Requester} {w : Word}
    (hi : stimulusReq i = some req) (h : t = ctrlWrite req w s) : Effect i s t := by
  rcases ctrlWrite_cases req w s with ⟨_, h'⟩ | ⟨hg, h'⟩ <;> rw [h'] at h
  · exact .of_guestError h
  · exact .control req _ hi hg h

theorem Effect.of_claimRegwenWrite {i : Instr} {s t : State} {req : Requester} {w : Word}
    (hi : stimulusReq i = some req) (h : t = claimRegwenWrite req w s) : Effect i s t := by
  rcases claimRegwenWrite_cases req w s with h' | h' | ⟨hg, h'⟩ <;> rw [h'] at h
  · exact .of_eq h
  · exact .of_guestError h
  · exact .locked req hi hg h

/-- The requester of a bus stimulus is the one in its word. -/
@[simp] theorem stimulusReq_read {i : Instr} {req : Requester} {off : BitVec 8} (h : encode i = busRead req off) :
    stimulusReq i = some req := by
  simp only [stimulusReq, h, busRead, busIfc_busWord]

@[simp] theorem stimulusReq_write {i : Instr} {req : Requester} {off : BitVec 8} {w : Word}
    (h : encode i = busWrite req off w) : stimulusReq i = some req := by
  simp only [stimulusReq, h, busWrite, busIfc_busWord]

/-- Everything `exec` can answer as a next state. -/
theorem exec_effect {i : Instr} {s t : State} (h : exec i s = .next t) : Effect i s t := by
  cases i with
  | rdLcState req => exact .of_replyView (Host.Outcome.next.inj h).symm
  | rdLcTransitionCnt req => exact .of_replyView (Host.Outcome.next.inj h).symm
  | rdLcIdState req => exact .of_replyView (Host.Outcome.next.inj h).symm
  | wrAlertTest req w => exact .of_eq (Host.Outcome.next.inj h).symm
  | wrClaimTransitionIfRegwen req w =>
    exact .of_claimRegwenWrite (req := req) (w := w) (stimulusReq_write rfl) (Host.Outcome.next.inj h).symm
  | wrClaimTransitionIf req w => exact .of_claimWrite (Host.Outcome.next.inj h).symm
  | wrTransitionCmd req w =>
    simp only [exec, execWrTransitionCmd, cmdWrite] at h
    split at h
    · exact .of_start (req := req) (by simp only [commandReq]; rw [if_pos ‹_›]) h
    · exact .of_eq (Host.Outcome.next.inj h).symm
  | wrTransitionCtrl req w => exact .of_ctrlWrite (req := req) (stimulusReq_write rfl) (Host.Outcome.next.inj h).symm
  | wrTransitionToken0 req w => exact .of_tokenWrite (req := req) (stimulusReq_write rfl) (Host.Outcome.next.inj h).symm
  | wrTransitionToken1 req w => exact .of_tokenWrite (req := req) (stimulusReq_write rfl) (Host.Outcome.next.inj h).symm
  | wrTransitionToken2 req w => exact .of_tokenWrite (req := req) (stimulusReq_write rfl) (Host.Outcome.next.inj h).symm
  | wrTransitionToken3 req w => exact .of_tokenWrite (req := req) (stimulusReq_write rfl) (Host.Outcome.next.inj h).symm
  | wrTransitionTarget req w => exact .of_targetWrite (req := req) (stimulusReq_write rfl) (Host.Outcome.next.inj h).symm
  | reset => exact .wasReset rfl (Host.Outcome.next.inj h).symm
  | init info fr => exact .initialized info fr rfl (Host.Outcome.next.inj h).symm
  | otpAck ok => exact .acknowledged ok rfl h
  | hashRsp a b d => exact .responded a b d rfl h
  | escalate => exact .escalated rfl (Host.Outcome.next.inj h).symm
  | claim req hi =>
    simp only [exec, execClaim] at h
    split at h
    · exact .of_claim (req := req) rfl ‹_› (Host.Outcome.next.inj h).symm
    · exact .of_guestError (Host.Outcome.next.inj h).symm
  | release req hi =>
    simp only [exec, execRelease] at h
    split at h
    · exact .of_release (req := req) rfl ‹_› (Host.Outcome.next.inj h).symm
    · exact .of_guestError (Host.Outcome.next.inj h).symm
  | start req hi => exact .of_start (req := req) rfl h
  | lockClaim req hi =>
    simp only [exec, execLockClaim] at h
    split at h
    · exact .locked req (stimulusReq_write rfl) ‹_› (Host.Outcome.next.inj h).symm
    · exact .of_guestError (Host.Outcome.next.inj h).symm
  | _ =>
    first
      | exact .of_guestError (Host.Outcome.next.inj h).symm
      | exact .of_guestErrorRead (Host.Outcome.next.inj h).symm
      | exact .of_reply (Host.Outcome.next.inj h).symm

end Sys2Proof.Machine
end

