-- ==== Sys2Proof/Laws/Outcomes.lean ====
section
/-! SUPPORT. The next states of the three reactions that run through the FSM (a start, an acknowledge, a hash response), each written out as one update of the state the
reaction began in: the transient states and the operations they pass through are gone. -/

namespace Sys2Proof.Machine

/-- The five ways an accepted start ends (R140 to R145). -/
inductive StartEnd (req : Requester) (s t : State) : Prop where
  /-- Volatile unlock (R141). -/
  | unlocked (hv : volatileCond (decodeTarget (s.slot req).target) s = true)
      (hm : matchToken s.tokens (s.slot req).assembled .rawUnlock = true)
      (ht : t = { s with
        xactReq := req
        lcState := .real .testUnlocked0
        volUnlock := true
        status := { s.status with transitionSuccessful := true } })
  /-- Volatile path, token error. -/
  | mismatch (hv : volatileCond (decodeTarget (s.slot req).target) s = true)
      (hm : matchToken s.tokens (s.slot req).assembled .rawUnlock = false)
      (ht : t = { s with
        xactReq := req
        status := { s.status with tokenError := true }
        fsm := .postTrans })
  /-- The count is full (R144). -/
  | full (hv : volatileCond (decodeTarget (s.slot req).target) s = false) (hc : s.lcCnt = .count 24)
      (ht : t = { s with
        xactReq := req
        clkBypReq := s.clkBypReq || (s.ctrl.extClockEn && clockFamily (decodeTarget (s.slot req).target))
        status := { s.status with
          extClockSwitched := s.status.extClockSwitched || (s.ctrl.extClockEn && clockFamily (decodeTarget (s.slot req).target))
          transitionCountError := true }
        fsm := .postTrans })
  /-- The count program is accepted (R145). -/
  | waiting (n : Fin 25) (l : LcState) (hv : volatileCond (decodeTarget (s.slot req).target) s = false)
      (hc : s.lcCnt = .count n) (hn : n.val < 24) (hl : s.lcState = .real l) (ha : s.otpAccept = true)
      (ht : t = { s with
        xactReq := req
        clkBypReq := s.clkBypReq || (s.ctrl.extClockEn && clockFamily (decodeTarget (s.slot req).target))
        status := { s.status with
          extClockSwitched := s.status.extClockSwitched || (s.ctrl.extClockEn && clockFamily (decodeTarget (s.slot req).target)) }
        lcCnt := .count (nextCount (decodeTarget (s.slot req).target) n)
        emitted := s.emitted ++
          [.programReq (device.lcStateTable l) (device.lcCntTable (nextCount (decodeTarget (s.slot req).target) n))]
        otpPending := true
        fsm := .cntProg })
  /-- The count program is refused (R145). -/
  | busy (n : Fin 25) (l : LcState) (hv : volatileCond (decodeTarget (s.slot req).target) s = false)
      (hc : s.lcCnt = .count n) (hn : n.val < 24) (hl : s.lcState = .real l) (ha : s.otpAccept = false)
      (ht : t = { s with
        xactReq := req
        clkBypReq := s.clkBypReq || (s.ctrl.extClockEn && clockFamily (decodeTarget (s.slot req).target))
        status := { s.status with
          extClockSwitched := s.status.extClockSwitched || (s.ctrl.extClockEn && clockFamily (decodeTarget (s.slot req).target))
          otpError := true }
        lcCnt := .count (nextCount (decodeTarget (s.slot req).target) n)
        emitted := s.emitted ++
          [.programReq (device.lcStateTable l) (device.lcCntTable (nextCount (decodeTarget (s.slot req).target) n))]
        fsm := .postTrans })

theorem volatileCond_usable {tgt : Option LcState} {s : State} (h : volatileCond tgt s = true) :
    s.tokens.usable .rawUnlock = true := by
  simp only [volatileCond, Bool.and_eq_true] at h
  exact h.1.1.2

theorem started_eq (req : Requester) (s : State) :
    started req s =
      { s with
        xactReq := req
        clkBypReq := s.clkBypReq || (s.ctrl.extClockEn && clockFamily (decodeTarget (s.slot req).target))
        status := { s.status with
          extClockSwitched := s.status.extClockSwitched || (s.ctrl.extClockEn && clockFamily (decodeTarget (s.slot req).target)) }
        fsm := .cntIncr } := by
  unfold started
  rw [tgt_of_xactReq, requestClock_eq]

theorem start_end {req : Requester} {s t : State} (hg : s.transRegwen req = true)
    (h : start device req s = .next t) : StartEnd req s t := by
  rcases start_cases device req s with ⟨h3, _⟩ | ⟨_, hv, h3⟩ | ⟨_, hv, h3⟩
  · rw [hg] at h3; cases h3
  · rw [h3] at h
    have h := (Host.Outcome.next.inj h).symm
    rcases volatileUnlock_cases req { s with xactReq := req } with ⟨hm, h4⟩ | ⟨hm, h4⟩ <;> rw [h4] at h
    · exact .unlocked hv (by cases req <;> exact hm) h
    · refine .mismatch hv (by cases req <;> exact hm) ?_
      have hu : (State.tokens { s with xactReq := req }).usable .rawUnlock = true := volatileCond_usable hv
      rw [h, noteUnset, if_pos hu]
      rfl
  · rw [h3, started_eq] at h
    obtain ⟨n, hc, ⟨hn, rfl⟩ | ⟨hn, l, hl, rfl⟩⟩ := cntIncr_next h
    · have h24 : n = 24 := Fin.ext (by have := n.isLt; have : (24 : Fin 25).val = 24 := rfl; omega)
      subst h24
      exact .full hv hc rfl
    · rcases programReq_cases (device.lcStateTable l)
          (device.lcCntTable (nextCount (decodeTarget (s.slot req).target) n)) _ with ⟨ha, h5⟩ | ⟨ha, h5⟩ <;> rw [h5]
      · exact .waiting n l hv hc hn hl ha rfl
      · exact .busy n l hv hc hn hl ha rfl

/-- The seven ways an acknowledge ends (R146 to R149, R152, R158). -/
inductive AckEnd (ok : Bool) (s t : State) : Prop where
  | unawaited (hp : s.otpPending = false) (ht : t = s)
  | countNack (hp : s.otpPending = true) (hf : s.fsm = .cntProg) (hok : ok = false)
      (ht : t = { s with otpPending := false, status := { s.status with otpError := true }, fsm := .postTrans })
  | forbidden (hp : s.otpPending = true) (hf : s.fsm = .cntProg) (hok : ok = true)
      (hk : requiredTokenFor device.transMatrix s.lcState s.tgt = .invalid)
      (ht : t = { s with otpPending := false, status := { s.status with transitionError := true }, fsm := .postTrans })
  | hashing (hp : s.otpPending = true) (hf : s.fsm = .cntProg) (hok : ok = true)
      (hk : requiredTokenFor device.transMatrix s.lcState s.tgt ≠ .invalid) (hh : s.hashState = .hIdle)
      (ht : t = { s with
        otpPending := false
        fsm := .tokenHash
        hashReq := s.xactReq
        hashState := .hFirstSent
        emitted := s.emitted ++ [.hashRequest device.kmacAppId (chunk ((s.slot s.xactReq).half 0)) false] })
  | stateNack (hp : s.otpPending = true) (hf : s.fsm = .transProg) (hok : ok = false)
      (ht : t = { s with otpPending := false, status := { s.status with otpError := true }, fsm := .postTrans })
  | committed (l : LcState) (hp : s.otpPending = true) (hf : s.fsm = .transProg) (hok : ok = true) (hl : s.tgt = some l)
      (ht : t = { s with
        otpPending := false
        lcState := .real l
        status := { s.status with transitionSuccessful := true }
        fsm := committedFsm l })
  | absorbed (hp : s.otpPending = true) (hf : s.fsm = .escalate) (ht : t = { s with otpPending := false })

theorem otpAck_end {ok : Bool} {s t : State} (h : otpAck device ok s = .next t) : AckEnd ok s t := by
  rcases otpAck_next h with ⟨hp, ht⟩ | ⟨hp, hf, h1⟩ | ⟨hp, hf, h1⟩ | ⟨hp, hf, ht⟩
  · exact .unawaited hp ht
  · cases ok with
    | false => exact .countNack hp hf rfl (Host.Outcome.next.inj h1).symm
    | true =>
      have h1 : transCheck device { s with otpPending := false, fsm := .transCheck } = .next t := h1
      rcases transCheck_cases device { s with otpPending := false, fsm := .transCheck } with ⟨hk, h2⟩ | ⟨hk, h2⟩
      · rw [h2] at h1
        exact .forbidden hp hf rfl hk (Host.Outcome.next.inj h1).symm
      · rw [h2] at h1
        obtain ⟨hh, ht⟩ := requestHash_next h1
        exact .hashing hp hf rfl hk hh ht
  · rcases ackTransProg_next h1 with ⟨hok, ht⟩ | ⟨hok, l, hl, ht⟩
    · exact .stateNack hp hf hok ht
    · exact .committed l hp hf hok hl ht
  · exact .absorbed hp hf ht

/-- The seven ways a hash response ends (R105 to R107, R111, R150, R151). -/
inductive HashEnd (a b : Token) (d : Bool) (s t : State) : Prop where
  | unawaited (hh : s.hashState = .hIdle) (ht : t = s)
  | secondHalf (hh : s.hashState = .hFirstSent) (hd : d = false)
      (ht : t = { s with
        hashState := .hSecondSent
        emitted := s.emitted ++ [.hashRequest device.kmacAppId (chunk ((s.slot s.hashReq).half 1)) true] })
  | stored (hh : s.hashState = .hSecondSent) (hd : d = true) (hf : s.fsm ≠ .tokenHash)
      (ht : t = { s with digest := recombine a b, hashState := .hIdle })
  | forbidden (hh : s.hashState = .hSecondSent) (hd : d = true) (hf : s.fsm = .tokenHash)
      (hk : requiredTokenFor device.transMatrix s.lcState s.tgt = .invalid)
      (ht : t = { s with
        digest := recombine a b, hashState := .hIdle
        status := { s.status with transitionError := true }, fsm := .postTrans })
  | mismatch (k : TokenKind) (dg : List Diag) (hh : s.hashState = .hSecondSent) (hd : d = true) (hf : s.fsm = .tokenHash)
      (hk : requiredTokenFor device.transMatrix s.lcState s.tgt = k) (hk' : k ≠ .invalid)
      (hm : matchToken s.tokens (recombine a b) k = false)
      (hdg : dg = if s.tokens.usable k then s.diag else s.diag ++ [.unsetTokenKind])
      (ht : t = { s with
        digest := recombine a b, hashState := .hIdle, diag := dg
        status := { s.status with tokenError := true }, fsm := .postTrans })
  | waiting (k : TokenKind) (l : LcState) (n : Fin 25) (hh : s.hashState = .hSecondSent) (hd : d = true) (hf : s.fsm = .tokenHash)
      (hk : requiredTokenFor device.transMatrix s.lcState s.tgt = k) (hk' : k ≠ .invalid)
      (hm : matchToken s.tokens (recombine a b) k = true) (hl : s.tgt = some l) (hc : s.lcCnt = .count n)
      (ha : s.otpAccept = true)
      (ht : t = { s with
        digest := recombine a b, hashState := .hIdle
        emitted := s.emitted ++ [.programReq (device.lcStateTable l) (device.lcCntTable n)]
        otpPending := true, fsm := .transProg })
  | busy (k : TokenKind) (l : LcState) (n : Fin 25) (hh : s.hashState = .hSecondSent) (hd : d = true) (hf : s.fsm = .tokenHash)
      (hk : requiredTokenFor device.transMatrix s.lcState s.tgt = k) (hk' : k ≠ .invalid)
      (hm : matchToken s.tokens (recombine a b) k = true) (hl : s.tgt = some l) (hc : s.lcCnt = .count n)
      (ha : s.otpAccept = false)
      (ht : t = { s with
        digest := recombine a b, hashState := .hIdle
        emitted := s.emitted ++ [.programReq (device.lcStateTable l) (device.lcCntTable n)]
        status := { s.status with otpError := true }, fsm := .postTrans })

theorem hashRsp_end {a b : Token} {d : Bool} {s t : State} (h : hashRsp device a b d s = .next t) : HashEnd a b d s t := by
  rcases hashRsp_next h with ⟨hh, ht⟩ | ⟨hh, hd, ht⟩ | ⟨hh, hd, hf, ht⟩ | ⟨hh, hd, hf, h1⟩
  · exact .unawaited hh ht
  · exact .secondHalf hh hd ht
  · exact .stored hh hd hf ht
  · rcases resumeFromHash_cases device (storeDigest a b s) with ⟨hk, h2⟩ | ⟨hk, hm, h2⟩ | ⟨hk, hm, h2⟩ <;> rw [h2] at h1
    · exact .forbidden hh hd hf hk (Host.Outcome.next.inj h1).symm
    · obtain ⟨l, n, hl, hc, rfl⟩ := transProg_next h1
      rcases programReq_cases (device.lcStateTable l) (device.lcCntTable n)
          { storeDigest a b s with fsm := .transProg } with ⟨ha, h5⟩ | ⟨ha, h5⟩ <;> rw [h5]
      · exact .waiting _ l n hh hd hf rfl hk hm hl hc ha rfl
      · exact .busy _ l n hh hd hf rfl hk hm hl hc ha rfl
    · refine .mismatch _ _ hh hd hf rfl hk hm rfl ?_
      rw [← Host.Outcome.next.inj h1]
      unfold noteUnset
      have hk' : requiredTokenFor device.transMatrix (storeDigest a b s).lcState (storeDigest a b s).tgt
          = requiredTokenFor device.transMatrix s.lcState s.tgt := rfl
      rw [hk']
      have hu : (State.tokens { storeDigest a b s with fsm := .tokenCheck }).usable
          (requiredTokenFor device.transMatrix s.lcState s.tgt)
          = s.tokens.usable (requiredTokenFor device.transMatrix s.lcState s.tgt) := rfl
      rw [hu]
      cases s.tokens.usable (requiredTokenFor device.transMatrix s.lcState s.tgt) <;> rfl

end Sys2Proof.Machine
end

