-- ==== Sys2Proof/Laws/PerInstr.lean ====
section
/-! SUPPORT. The statements that are made per instruction. Family TableMatch: the encoding of every well-formed instruction has the bits that its row of
spec/opcode_table.json fixes (`w & mask == match`). -/

namespace Sys2Proof.Laws

/-- The fixed bits of a row of spec/opcode_table.json. -/
inductive TableRow where
  | bus (mask pattern : BitVec 42)
  | evt (mask pattern : BitVec 8)

/-- Whether a stimulus has a row's fixed bits. -/
def TableRow.Fits : TableRow → Stimulus → Prop
  | .bus mask pattern, .bus _ w => w &&& mask = pattern
  | .evt mask pattern, .evt code _ => code &&& mask = pattern
  | .bus _ _, .evt _ _ => False
  | .evt _ _, .bus _ _ => False

/-- `mask` and `match` of an instruction's row, copied from spec/opcode_table.json. -/
def tableRow : Instr → TableRow
  | .rdAlertTest _ => .bus 0x1FF00000000#42 0x00000000000#42
  | .wrAlertTest _ _ => .bus 0x1FF00000000#42 0x10000000000#42
  | .rdStatus _ => .bus 0x1FF00000000#42 0x00400000000#42
  | .wrStatus _ _ => .bus 0x1FF00000000#42 0x10400000000#42
  | .rdClaimTransitionIfRegwen _ => .bus 0x1FF00000000#42 0x00800000000#42
  | .wrClaimTransitionIfRegwen _ _ => .bus 0x1FF00000000#42 0x10800000000#42
  | .rdClaimTransitionIf _ => .bus 0x1FF00000000#42 0x00C00000000#42
  | .wrClaimTransitionIf _ _ => .bus 0x1FF00000000#42 0x10C00000000#42
  | .rdTransitionRegwen _ => .bus 0x1FF00000000#42 0x01000000000#42
  | .wrTransitionRegwen _ _ => .bus 0x1FF00000000#42 0x11000000000#42
  | .rdTransitionCmd _ => .bus 0x1FF00000000#42 0x01400000000#42
  | .wrTransitionCmd _ _ => .bus 0x1FF00000000#42 0x11400000000#42
  | .rdTransitionCtrl _ => .bus 0x1FF00000000#42 0x01800000000#42
  | .wrTransitionCtrl _ _ => .bus 0x1FF00000000#42 0x11800000000#42
  | .rdTransitionToken0 _ => .bus 0x1FF00000000#42 0x01C00000000#42
  | .wrTransitionToken0 _ _ => .bus 0x1FF00000000#42 0x11C00000000#42
  | .rdTransitionToken1 _ => .bus 0x1FF00000000#42 0x02000000000#42
  | .wrTransitionToken1 _ _ => .bus 0x1FF00000000#42 0x12000000000#42
  | .rdTransitionToken2 _ => .bus 0x1FF00000000#42 0x02400000000#42
  | .wrTransitionToken2 _ _ => .bus 0x1FF00000000#42 0x12400000000#42
  | .rdTransitionToken3 _ => .bus 0x1FF00000000#42 0x02800000000#42
  | .wrTransitionToken3 _ _ => .bus 0x1FF00000000#42 0x12800000000#42
  | .rdTransitionTarget _ => .bus 0x1FF00000000#42 0x02C00000000#42
  | .wrTransitionTarget _ _ => .bus 0x1FF00000000#42 0x12C00000000#42
  | .rdLcState _ => .bus 0x1FF00000000#42 0x03800000000#42
  | .wrLcState _ _ => .bus 0x1FF00000000#42 0x13800000000#42
  | .rdLcTransitionCnt _ => .bus 0x1FF00000000#42 0x03C00000000#42
  | .wrLcTransitionCnt _ _ => .bus 0x1FF00000000#42 0x13C00000000#42
  | .rdLcIdState _ => .bus 0x1FF00000000#42 0x04000000000#42
  | .wrLcIdState _ _ => .bus 0x1FF00000000#42 0x14000000000#42
  | .rdHwRevision0 _ => .bus 0x1FF00000000#42 0x04400000000#42
  | .wrHwRevision0 _ _ => .bus 0x1FF00000000#42 0x14400000000#42
  | .rdHwRevision1 _ => .bus 0x1FF00000000#42 0x04800000000#42
  | .wrHwRevision1 _ _ => .bus 0x1FF00000000#42 0x14800000000#42
  | .rdDeviceId0 _ => .bus 0x1FF00000000#42 0x04C00000000#42
  | .wrDeviceId0 _ _ => .bus 0x1FF00000000#42 0x14C00000000#42
  | .rdDeviceId1 _ => .bus 0x1FF00000000#42 0x05000000000#42
  | .wrDeviceId1 _ _ => .bus 0x1FF00000000#42 0x15000000000#42
  | .rdDeviceId2 _ => .bus 0x1FF00000000#42 0x05400000000#42
  | .wrDeviceId2 _ _ => .bus 0x1FF00000000#42 0x15400000000#42
  | .rdDeviceId3 _ => .bus 0x1FF00000000#42 0x05800000000#42
  | .wrDeviceId3 _ _ => .bus 0x1FF00000000#42 0x15800000000#42
  | .rdDeviceId4 _ => .bus 0x1FF00000000#42 0x05C00000000#42
  | .wrDeviceId4 _ _ => .bus 0x1FF00000000#42 0x15C00000000#42
  | .rdDeviceId5 _ => .bus 0x1FF00000000#42 0x06000000000#42
  | .wrDeviceId5 _ _ => .bus 0x1FF00000000#42 0x16000000000#42
  | .rdDeviceId6 _ => .bus 0x1FF00000000#42 0x06400000000#42
  | .wrDeviceId6 _ _ => .bus 0x1FF00000000#42 0x16400000000#42
  | .rdDeviceId7 _ => .bus 0x1FF00000000#42 0x06800000000#42
  | .wrDeviceId7 _ _ => .bus 0x1FF00000000#42 0x16800000000#42
  | .rdManufState0 _ => .bus 0x1FF00000000#42 0x06C00000000#42
  | .wrManufState0 _ _ => .bus 0x1FF00000000#42 0x16C00000000#42
  | .rdManufState1 _ => .bus 0x1FF00000000#42 0x07000000000#42
  | .wrManufState1 _ _ => .bus 0x1FF00000000#42 0x17000000000#42
  | .rdManufState2 _ => .bus 0x1FF00000000#42 0x07400000000#42
  | .wrManufState2 _ _ => .bus 0x1FF00000000#42 0x17400000000#42
  | .rdManufState3 _ => .bus 0x1FF00000000#42 0x07800000000#42
  | .wrManufState3 _ _ => .bus 0x1FF00000000#42 0x17800000000#42
  | .rdManufState4 _ => .bus 0x1FF00000000#42 0x07C00000000#42
  | .wrManufState4 _ _ => .bus 0x1FF00000000#42 0x17C00000000#42
  | .rdManufState5 _ => .bus 0x1FF00000000#42 0x08000000000#42
  | .wrManufState5 _ _ => .bus 0x1FF00000000#42 0x18000000000#42
  | .rdManufState6 _ => .bus 0x1FF00000000#42 0x08400000000#42
  | .wrManufState6 _ _ => .bus 0x1FF00000000#42 0x18400000000#42
  | .rdManufState7 _ => .bus 0x1FF00000000#42 0x08800000000#42
  | .wrManufState7 _ _ => .bus 0x1FF00000000#42 0x18800000000#42
  | .rdUnmapped30 _ => .bus 0x1FF00000000#42 0x03000000000#42
  | .wrUnmapped30 _ _ => .bus 0x1FF00000000#42 0x13000000000#42
  | .rdUnmapped34 _ => .bus 0x1FF00000000#42 0x03400000000#42
  | .wrUnmapped34 _ _ => .bus 0x1FF00000000#42 0x13400000000#42
  | .rdOutOfRange8C8C _ => .bus 0x1FF00000000#42 0x08C00000000#42
  | .wrOutOfRange8C8C _ _ => .bus 0x1FF00000000#42 0x18C00000000#42
  | .rdOutOfRange909C _ _ => .bus 0x1F000000000#42 0x09000000000#42
  | .wrOutOfRange909C _ _ _ => .bus 0x1F000000000#42 0x19000000000#42
  | .rdOutOfRangeA0Bc _ _ => .bus 0x1E000000000#42 0x0A000000000#42
  | .wrOutOfRangeA0Bc _ _ _ => .bus 0x1E000000000#42 0x1A000000000#42
  | .rdOutOfRangeC0Fc _ _ => .bus 0x1C000000000#42 0x0C000000000#42
  | .wrOutOfRangeC0Fc _ _ _ => .bus 0x1C000000000#42 0x1C000000000#42
  | .reset => .evt 0xFF#8 0x01#8
  | .init _ _ => .evt 0xFF#8 0x02#8
  | .otpAck _ => .evt 0xFF#8 0x03#8
  | .hashRsp _ _ _ => .evt 0xFF#8 0x04#8
  | .escalate => .evt 0xFF#8 0x05#8
  | .claim _ _ => .bus 0x1FF000000FF#42 0x10C00000096#42
  | .release _ _ => .bus 0x1FF000000FF#42 0x10C00000069#42
  | .start _ _ => .bus 0x1FF00000001#42 0x11400000001#42
  | .lockClaim _ _ => .bus 0x1FF00000001#42 0x10800000000#42

/-- A word under the mask of a row: bit 41 is free, bit 40 is fixed (R61). -/
theorem busWord_masked (req : Requester) (we : Bool) (off moff : BitVec 8) (w mw : Word) :
    busWord req we off w &&& busWord .sw true moff mw = busWord .sw we (off &&& moff) (w &&& mw) := by
  apply BitVec.eq_of_getLsbD_eq
  intro i hi
  simp only [BitVec.getLsbD_and, busWord_bit]
  by_cases h1 : i < 32
  · simp only [h1, if_true]
  · by_cases h2 : i < 40
    · simp only [h1, h2, if_true, if_false]
    · simp only [h1, h2, if_false]
      by_cases h4 : i = 40
      · simp only [h4, if_true, Bool.and_true]
      · by_cases h5 : i = 41
        · subst h5
          cases req <;> rfl
        · simp only [h4, h5, if_false, Bool.and_false]

theorem busWord_row (req : Requester) (we : Bool) (off : BitVec 8) (w : Word) :
    busWord req we off w &&& busWord .sw true 0xFF#8 0#32 = busWord .sw we off 0#32 := by
  rw [busWord_masked, BitVec.and_zero]
  congr 1
  exact BitVec.and_allOnes

theorem busWord_class {req : Requester} {we : Bool} {off : BitVec 8} {w : Word} {m p : BitVec 8} (h : off &&& m = p) :
    busWord req we off w &&& busWord .sw true m 0#32 = busWord .sw we p 0#32 := by
  rw [busWord_masked, h, BitVec.and_zero]

theorem busWord_row_low (req : Requester) (off : BitVec 8) (w mw : Word) (lo : Word) (h : w &&& mw = lo) :
    busWord req true off w &&& busWord .sw true 0xFF#8 mw = busWord .sw true off lo := by
  rw [busWord_masked, h]
  congr 1
  exact BitVec.and_allOnes

theorem low8 (hi : BitVec 24) (lo : BitVec 8) : ((hi ++ lo : BitVec 32) &&& (0#24 ++ 0xFF#8 : BitVec 32)) = 0#24 ++ lo := by
  apply BitVec.eq_of_getLsbD_eq
  intro i h
  simp only [BitVec.getLsbD_and, BitVec.getLsbD_append]
  by_cases h1 : i < 8
  · simp only [h1, if_true]
    have : (0xFF#8).getLsbD i = true := by
      rw [show (0xFF#8) = BitVec.allOnes 8 by decide, BitVec.getLsbD_allOnes]
      simpa using h1
    rw [this, Bool.and_true]
  · simp only [h1, if_false, BitVec.getLsbD_zero, Bool.and_false]

theorem low1 (hi : BitVec 31) (lo : BitVec 1) : ((hi ++ lo : BitVec 32) &&& (0#31 ++ 1#1 : BitVec 32)) = 0#31 ++ lo := by
  apply BitVec.eq_of_getLsbD_eq
  intro i h
  simp only [BitVec.getLsbD_and, BitVec.getLsbD_append]
  by_cases h1 : i < 1
  · have h0 : i = 0 := by omega
    subst h0
    simp
  · simp only [h1, if_false, BitVec.getLsbD_zero, Bool.and_false]

/-- The offsets of a class, by their leading bits. -/
theorem class_909c : ∀ off : BitVec 8, (offAligned off && 0x90#8 ≤ off && off ≤ 0x9C#8) = true → off &&& 0xF0#8 = 0x90#8 := by
  decide

theorem class_a0bc : ∀ off : BitVec 8, (offAligned off && 0xA0#8 ≤ off && off ≤ 0xBC#8) = true → off &&& 0xE0#8 = 0xA0#8 := by
  decide

theorem class_c0fc : ∀ off : BitVec 8, (offAligned off && 0xC0#8 ≤ off) = true → off &&& 0xC0#8 = 0xC0#8 := by
  decide

namespace TableMatch

/-- The encoding of a well-formed instruction has its row's fixed bits. -/
def Statement (i : Instr) : Prop := i.wellFormed = true → (tableRow i).Fits (encode i)

theorem rdAlertTest (req : Requester) : Statement (.rdAlertTest req) := fun _ => busWord_row _ _ _ _

theorem wrAlertTest (req : Requester) (w : Word) : Statement (.wrAlertTest req w) := fun _ => busWord_row _ _ _ _

theorem rdStatus (req : Requester) : Statement (.rdStatus req) := fun _ => busWord_row _ _ _ _

theorem wrStatus (req : Requester) (w : Word) : Statement (.wrStatus req w) := fun _ => busWord_row _ _ _ _

theorem rdClaimTransitionIfRegwen (req : Requester) : Statement (.rdClaimTransitionIfRegwen req) := fun _ => busWord_row _ _ _ _

theorem wrClaimTransitionIfRegwen (req : Requester) (w : Word) : Statement (.wrClaimTransitionIfRegwen req w) := fun _ => busWord_row _ _ _ _

theorem rdClaimTransitionIf (req : Requester) : Statement (.rdClaimTransitionIf req) := fun _ => busWord_row _ _ _ _

theorem wrClaimTransitionIf (req : Requester) (w : Word) : Statement (.wrClaimTransitionIf req w) := fun _ => busWord_row _ _ _ _

theorem rdTransitionRegwen (req : Requester) : Statement (.rdTransitionRegwen req) := fun _ => busWord_row _ _ _ _

theorem wrTransitionRegwen (req : Requester) (w : Word) : Statement (.wrTransitionRegwen req w) := fun _ => busWord_row _ _ _ _

theorem rdTransitionCmd (req : Requester) : Statement (.rdTransitionCmd req) := fun _ => busWord_row _ _ _ _

theorem wrTransitionCmd (req : Requester) (w : Word) : Statement (.wrTransitionCmd req w) := fun _ => busWord_row _ _ _ _

theorem rdTransitionCtrl (req : Requester) : Statement (.rdTransitionCtrl req) := fun _ => busWord_row _ _ _ _

theorem wrTransitionCtrl (req : Requester) (w : Word) : Statement (.wrTransitionCtrl req w) := fun _ => busWord_row _ _ _ _

theorem rdTransitionToken0 (req : Requester) : Statement (.rdTransitionToken0 req) := fun _ => busWord_row _ _ _ _

theorem wrTransitionToken0 (req : Requester) (w : Word) : Statement (.wrTransitionToken0 req w) := fun _ => busWord_row _ _ _ _

theorem rdTransitionToken1 (req : Requester) : Statement (.rdTransitionToken1 req) := fun _ => busWord_row _ _ _ _

theorem wrTransitionToken1 (req : Requester) (w : Word) : Statement (.wrTransitionToken1 req w) := fun _ => busWord_row _ _ _ _

theorem rdTransitionToken2 (req : Requester) : Statement (.rdTransitionToken2 req) := fun _ => busWord_row _ _ _ _

theorem wrTransitionToken2 (req : Requester) (w : Word) : Statement (.wrTransitionToken2 req w) := fun _ => busWord_row _ _ _ _

theorem rdTransitionToken3 (req : Requester) : Statement (.rdTransitionToken3 req) := fun _ => busWord_row _ _ _ _

theorem wrTransitionToken3 (req : Requester) (w : Word) : Statement (.wrTransitionToken3 req w) := fun _ => busWord_row _ _ _ _

theorem rdTransitionTarget (req : Requester) : Statement (.rdTransitionTarget req) := fun _ => busWord_row _ _ _ _

theorem wrTransitionTarget (req : Requester) (w : Word) : Statement (.wrTransitionTarget req w) := fun _ => busWord_row _ _ _ _

theorem rdLcState (req : Requester) : Statement (.rdLcState req) := fun _ => busWord_row _ _ _ _

theorem wrLcState (req : Requester) (w : Word) : Statement (.wrLcState req w) := fun _ => busWord_row _ _ _ _

theorem rdLcTransitionCnt (req : Requester) : Statement (.rdLcTransitionCnt req) := fun _ => busWord_row _ _ _ _

theorem wrLcTransitionCnt (req : Requester) (w : Word) : Statement (.wrLcTransitionCnt req w) := fun _ => busWord_row _ _ _ _

theorem rdLcIdState (req : Requester) : Statement (.rdLcIdState req) := fun _ => busWord_row _ _ _ _

theorem wrLcIdState (req : Requester) (w : Word) : Statement (.wrLcIdState req w) := fun _ => busWord_row _ _ _ _

theorem rdHwRevision0 (req : Requester) : Statement (.rdHwRevision0 req) := fun _ => busWord_row _ _ _ _

theorem wrHwRevision0 (req : Requester) (w : Word) : Statement (.wrHwRevision0 req w) := fun _ => busWord_row _ _ _ _

theorem rdHwRevision1 (req : Requester) : Statement (.rdHwRevision1 req) := fun _ => busWord_row _ _ _ _

theorem wrHwRevision1 (req : Requester) (w : Word) : Statement (.wrHwRevision1 req w) := fun _ => busWord_row _ _ _ _

theorem rdDeviceId0 (req : Requester) : Statement (.rdDeviceId0 req) := fun _ => busWord_row _ _ _ _

theorem wrDeviceId0 (req : Requester) (w : Word) : Statement (.wrDeviceId0 req w) := fun _ => busWord_row _ _ _ _

theorem rdDeviceId1 (req : Requester) : Statement (.rdDeviceId1 req) := fun _ => busWord_row _ _ _ _

theorem wrDeviceId1 (req : Requester) (w : Word) : Statement (.wrDeviceId1 req w) := fun _ => busWord_row _ _ _ _

theorem rdDeviceId2 (req : Requester) : Statement (.rdDeviceId2 req) := fun _ => busWord_row _ _ _ _

theorem wrDeviceId2 (req : Requester) (w : Word) : Statement (.wrDeviceId2 req w) := fun _ => busWord_row _ _ _ _

theorem rdDeviceId3 (req : Requester) : Statement (.rdDeviceId3 req) := fun _ => busWord_row _ _ _ _

theorem wrDeviceId3 (req : Requester) (w : Word) : Statement (.wrDeviceId3 req w) := fun _ => busWord_row _ _ _ _

theorem rdDeviceId4 (req : Requester) : Statement (.rdDeviceId4 req) := fun _ => busWord_row _ _ _ _

theorem wrDeviceId4 (req : Requester) (w : Word) : Statement (.wrDeviceId4 req w) := fun _ => busWord_row _ _ _ _

theorem rdDeviceId5 (req : Requester) : Statement (.rdDeviceId5 req) := fun _ => busWord_row _ _ _ _

theorem wrDeviceId5 (req : Requester) (w : Word) : Statement (.wrDeviceId5 req w) := fun _ => busWord_row _ _ _ _

theorem rdDeviceId6 (req : Requester) : Statement (.rdDeviceId6 req) := fun _ => busWord_row _ _ _ _

theorem wrDeviceId6 (req : Requester) (w : Word) : Statement (.wrDeviceId6 req w) := fun _ => busWord_row _ _ _ _

theorem rdDeviceId7 (req : Requester) : Statement (.rdDeviceId7 req) := fun _ => busWord_row _ _ _ _

theorem wrDeviceId7 (req : Requester) (w : Word) : Statement (.wrDeviceId7 req w) := fun _ => busWord_row _ _ _ _

theorem rdManufState0 (req : Requester) : Statement (.rdManufState0 req) := fun _ => busWord_row _ _ _ _

theorem wrManufState0 (req : Requester) (w : Word) : Statement (.wrManufState0 req w) := fun _ => busWord_row _ _ _ _

theorem rdManufState1 (req : Requester) : Statement (.rdManufState1 req) := fun _ => busWord_row _ _ _ _

theorem wrManufState1 (req : Requester) (w : Word) : Statement (.wrManufState1 req w) := fun _ => busWord_row _ _ _ _

theorem rdManufState2 (req : Requester) : Statement (.rdManufState2 req) := fun _ => busWord_row _ _ _ _

theorem wrManufState2 (req : Requester) (w : Word) : Statement (.wrManufState2 req w) := fun _ => busWord_row _ _ _ _

theorem rdManufState3 (req : Requester) : Statement (.rdManufState3 req) := fun _ => busWord_row _ _ _ _

theorem wrManufState3 (req : Requester) (w : Word) : Statement (.wrManufState3 req w) := fun _ => busWord_row _ _ _ _

theorem rdManufState4 (req : Requester) : Statement (.rdManufState4 req) := fun _ => busWord_row _ _ _ _

theorem wrManufState4 (req : Requester) (w : Word) : Statement (.wrManufState4 req w) := fun _ => busWord_row _ _ _ _

theorem rdManufState5 (req : Requester) : Statement (.rdManufState5 req) := fun _ => busWord_row _ _ _ _

theorem wrManufState5 (req : Requester) (w : Word) : Statement (.wrManufState5 req w) := fun _ => busWord_row _ _ _ _

theorem rdManufState6 (req : Requester) : Statement (.rdManufState6 req) := fun _ => busWord_row _ _ _ _

theorem wrManufState6 (req : Requester) (w : Word) : Statement (.wrManufState6 req w) := fun _ => busWord_row _ _ _ _

theorem rdManufState7 (req : Requester) : Statement (.rdManufState7 req) := fun _ => busWord_row _ _ _ _

theorem wrManufState7 (req : Requester) (w : Word) : Statement (.wrManufState7 req w) := fun _ => busWord_row _ _ _ _

theorem rdUnmapped30 (req : Requester) : Statement (.rdUnmapped30 req) := fun _ => busWord_row _ _ _ _

theorem wrUnmapped30 (req : Requester) (w : Word) : Statement (.wrUnmapped30 req w) := fun _ => busWord_row _ _ _ _

theorem rdUnmapped34 (req : Requester) : Statement (.rdUnmapped34 req) := fun _ => busWord_row _ _ _ _

theorem wrUnmapped34 (req : Requester) (w : Word) : Statement (.wrUnmapped34 req w) := fun _ => busWord_row _ _ _ _

theorem rdOutOfRange8C8C (req : Requester) : Statement (.rdOutOfRange8C8C req) := fun _ => busWord_row _ _ _ _

theorem wrOutOfRange8C8C (req : Requester) (w : Word) : Statement (.wrOutOfRange8C8C req w) := fun _ => busWord_row _ _ _ _

theorem rdOutOfRange909C (req : Requester) (off : BitVec 8) : Statement (.rdOutOfRange909C req off) := fun h => busWord_class (class_909c off h)

theorem wrOutOfRange909C (req : Requester) (off : BitVec 8) (w : Word) : Statement (.wrOutOfRange909C req off w) := fun h => busWord_class (class_909c off h)

theorem rdOutOfRangeA0Bc (req : Requester) (off : BitVec 8) : Statement (.rdOutOfRangeA0Bc req off) := fun h => busWord_class (class_a0bc off h)

theorem wrOutOfRangeA0Bc (req : Requester) (off : BitVec 8) (w : Word) : Statement (.wrOutOfRangeA0Bc req off w) := fun h => busWord_class (class_a0bc off h)

theorem rdOutOfRangeC0Fc (req : Requester) (off : BitVec 8) : Statement (.rdOutOfRangeC0Fc req off) := fun h => busWord_class (class_c0fc off h)

theorem wrOutOfRangeC0Fc (req : Requester) (off : BitVec 8) (w : Word) : Statement (.wrOutOfRangeC0Fc req off w) := fun h => busWord_class (class_c0fc off h)

theorem reset : Statement (.reset) := fun _ => rfl

theorem init (info : OtpInfo) (forceRaw : Bool) : Statement (.init info forceRaw) := fun _ => rfl

theorem otpAck (ok : Bool) : Statement (.otpAck ok) := fun _ => rfl

theorem hashRsp (share0 share1 : Token) (done : Bool) : Statement (.hashRsp share0 share1 done) := fun _ => rfl

theorem escalate : Statement (.escalate) := fun _ => rfl

theorem claim (req : Requester) (hi : BitVec 24) : Statement (.claim req hi) := fun _ => busWord_row_low _ _ _ _ _ (low8 hi _)

theorem release (req : Requester) (hi : BitVec 24) : Statement (.release req hi) := fun _ => busWord_row_low _ _ _ _ _ (low8 hi _)

theorem start (req : Requester) (hi : BitVec 31) : Statement (.start req hi) := fun _ => busWord_row_low _ _ _ _ _ (low1 hi _)

theorem lockClaim (req : Requester) (hi : BitVec 31) : Statement (.lockClaim req hi) := fun _ => busWord_row_low _ _ _ _ _ (low1 hi _)

end TableMatch

end Sys2Proof.Laws
end

