-- ==== Sys2Proof/Tests/Slice0.lean ====
section
/-! SUPPORT. The model's own tests. The expected results are the spec's: the word layout of R61 and the offsets of R41, the vectors of 95_test_vectors.md (named in each
comment), and hand calculation from the rules. Execution tests that need a device compute on the reference configuration `refConfig` (95 section 0). Last, for each statement
with hypotheses a theorem that shows they can be met. -/

namespace Sys2Proof.Tests

open Sys2Proof Sys2Proof.Machine

/-! ### Well-formedness: each check refuses an ill-formed term -/

theorem test_wellFormed_refuses_pseudo_words :
    Instr.wellFormed (.wrClaimTransitionIfRegwen .sw 0xFFFFFFFE#32) = false ∧
    Instr.wellFormed (.wrClaimTransitionIf .dbg 0xFFFFFF96#32) = false ∧
    Instr.wellFormed (.wrClaimTransitionIf .dbg 0x00000069#32) = false ∧
    Instr.wellFormed (.wrTransitionCmd .sw 0x00000001#32) = false := by
  decide

theorem test_wellFormed_refuses_offsets :
    Instr.wellFormed (.rdOutOfRange909C .sw 0x91#8) = false ∧ Instr.wellFormed (.rdOutOfRange909C .sw 0x8C#8) = false ∧
    Instr.wellFormed (.wrOutOfRange909C .sw 0xA0#8 0#32) = false ∧ Instr.wellFormed (.wrOutOfRange909C .sw 0x9E#8 0#32) = false ∧
    Instr.wellFormed (.rdOutOfRangeA0Bc .sw 0x9C#8) = false ∧ Instr.wellFormed (.rdOutOfRangeA0Bc .sw 0xA2#8) = false ∧
    Instr.wellFormed (.wrOutOfRangeA0Bc .sw 0xC0#8 0#32) = false ∧ Instr.wellFormed (.wrOutOfRangeA0Bc .sw 0xBD#8 0#32) = false ∧
    Instr.wellFormed (.rdOutOfRangeC0Fc .sw 0xBC#8) = false ∧ Instr.wellFormed (.rdOutOfRangeC0Fc .sw 0xFF#8) = false ∧
    Instr.wellFormed (.wrOutOfRangeC0Fc .sw 0xBC#8 0#32) = false ∧ Instr.wellFormed (.wrOutOfRangeC0Fc .sw 0xFD#8 0#32) = false := by
  decide

/-- A configuration whose word counts are not those of its strings is not well-formed (R7): the counts are the configuration's own. -/
theorem test_config_refuses_other_word_counts :
    ¬ ({ refConfig with lcStateWords := 19 } : Config).WellFormed ∧ ¬ ({ refConfig with lcCntWords := 25 } : Config).WellFormed :=
  ⟨fun h => absurd h.state_words.1 (by decide), fun h => absurd h.cnt_words.1 (by decide)⟩

/-- The condition on the endpoints, R72's and the one of log entry 28. -/
theorem test_config_refuses_other_endpoints :
    ¬ ({ refConfig with lcStateFirst := List.replicate 20 1#16 } : Config).WellFormed ∧
    ¬ ({ refConfig with lcCntLast := List.replicate 24 1#16 } : Config).WellFormed :=
  ⟨fun h => absurd h.state_endpoints_agree (by decide), fun h => absurd h.cnt_endpoints_agree (by decide)⟩

theorem test_wellFormed_accepts_boundaries :
    Instr.wellFormed (.rdOutOfRange909C .sw 0x90#8) = true ∧ Instr.wellFormed (.wrOutOfRange909C .sw 0x9C#8 0#32) = true ∧
    Instr.wellFormed (.rdOutOfRangeA0Bc .sw 0xA0#8) = true ∧ Instr.wellFormed (.wrOutOfRangeA0Bc .sw 0xBC#8 0#32) = true ∧
    Instr.wellFormed (.rdOutOfRangeC0Fc .sw 0xC0#8) = true ∧ Instr.wellFormed (.wrOutOfRangeC0Fc .sw 0xFC#8 0#32) = true ∧
    Instr.wellFormed (.wrClaimTransitionIfRegwen .sw 1#32) = true ∧ Instr.wellFormed (.wrClaimTransitionIf .sw 0#32) = true ∧
    Instr.wellFormed (.wrTransitionCmd .sw 0xFFFFFFFE#32) = true ∧ Instr.wellFormed (.init EvtOperands.zero.info true) = true := by
  decide

/-! ### Decoding: for every constructor a word written out from R61 (`ifc` bit 41, `we` bit 40, `off` bits 39:32, `wdata`) and the offset of R41 -/

theorem test_decode_claim_registers :
    decodeTableWord 48 0x00000000000 = some (.rdAlertTest .sw) ∧
    decodeTableWord 48 0x30080000001 = some (.wrAlertTest .dbg 0x80000001#32) ∧
    decodeTableWord 48 0x20400000000 = some (.rdStatus .dbg) ∧
    decodeTableWord 48 0x10480000401 = some (.wrStatus .sw 0x80000401#32) ∧
    decodeTableWord 48 0x00800000000 = some (.rdClaimTransitionIfRegwen .sw) ∧
    decodeTableWord 48 0x308FFFFFFFF = some (.wrClaimTransitionIfRegwen .dbg 0xFFFFFFFF#32) ∧
    decodeTableWord 48 0x20C00000000 = some (.rdClaimTransitionIf .dbg) ∧
    decodeTableWord 48 0x10C00000097 = some (.wrClaimTransitionIf .sw 0x00000097#32) := by
  decide

theorem test_decode_transition_registers :
    decodeTableWord 48 0x01000000000 = some (.rdTransitionRegwen .sw) ∧
    decodeTableWord 48 0x31080001001 = some (.wrTransitionRegwen .dbg 0x80001001#32) ∧
    decodeTableWord 48 0x21400000000 = some (.rdTransitionCmd .dbg) ∧
    decodeTableWord 48 0x114FFFFFFFE = some (.wrTransitionCmd .sw 0xFFFFFFFE#32) ∧
    decodeTableWord 48 0x01800000000 = some (.rdTransitionCtrl .sw) ∧
    decodeTableWord 48 0x31880001801 = some (.wrTransitionCtrl .dbg 0x80001801#32) := by
  decide

theorem test_decode_tokens_and_target :
    decodeTableWord 48 0x21C00000000 = some (.rdTransitionToken0 .dbg) ∧
    decodeTableWord 48 0x11C80001C01 = some (.wrTransitionToken0 .sw 0x80001C01#32) ∧
    decodeTableWord 48 0x02000000000 = some (.rdTransitionToken1 .sw) ∧
    decodeTableWord 48 0x32080002001 = some (.wrTransitionToken1 .dbg 0x80002001#32) ∧
    decodeTableWord 48 0x22400000000 = some (.rdTransitionToken2 .dbg) ∧
    decodeTableWord 48 0x12480002401 = some (.wrTransitionToken2 .sw 0x80002401#32) ∧
    decodeTableWord 48 0x02800000000 = some (.rdTransitionToken3 .sw) ∧
    decodeTableWord 48 0x32880002801 = some (.wrTransitionToken3 .dbg 0x80002801#32) ∧
    decodeTableWord 48 0x22C00000000 = some (.rdTransitionTarget .dbg) ∧
    decodeTableWord 48 0x12C80002C01 = some (.wrTransitionTarget .sw 0x80002C01#32) := by
  decide

theorem test_decode_information_registers :
    decodeTableWord 48 0x03800000000 = some (.rdLcState .sw) ∧
    decodeTableWord 48 0x33880003801 = some (.wrLcState .dbg 0x80003801#32) ∧
    decodeTableWord 48 0x23C00000000 = some (.rdLcTransitionCnt .dbg) ∧
    decodeTableWord 48 0x13C80003C01 = some (.wrLcTransitionCnt .sw 0x80003C01#32) ∧
    decodeTableWord 48 0x04000000000 = some (.rdLcIdState .sw) ∧
    decodeTableWord 48 0x34080004001 = some (.wrLcIdState .dbg 0x80004001#32) ∧
    decodeTableWord 48 0x24400000000 = some (.rdHwRevision0 .dbg) ∧
    decodeTableWord 48 0x14480004401 = some (.wrHwRevision0 .sw 0x80004401#32) ∧
    decodeTableWord 48 0x04800000000 = some (.rdHwRevision1 .sw) ∧
    decodeTableWord 48 0x34880004801 = some (.wrHwRevision1 .dbg 0x80004801#32) := by
  decide

theorem test_decode_device_id :
    decodeTableWord 48 0x24C00000000 = some (.rdDeviceId0 .dbg) ∧
    decodeTableWord 48 0x14C80004C01 = some (.wrDeviceId0 .sw 0x80004C01#32) ∧
    decodeTableWord 48 0x05000000000 = some (.rdDeviceId1 .sw) ∧
    decodeTableWord 48 0x35080005001 = some (.wrDeviceId1 .dbg 0x80005001#32) ∧
    decodeTableWord 48 0x25400000000 = some (.rdDeviceId2 .dbg) ∧
    decodeTableWord 48 0x15480005401 = some (.wrDeviceId2 .sw 0x80005401#32) ∧
    decodeTableWord 48 0x05800000000 = some (.rdDeviceId3 .sw) ∧
    decodeTableWord 48 0x35880005801 = some (.wrDeviceId3 .dbg 0x80005801#32) ∧
    decodeTableWord 48 0x25C00000000 = some (.rdDeviceId4 .dbg) ∧
    decodeTableWord 48 0x15C80005C01 = some (.wrDeviceId4 .sw 0x80005C01#32) ∧
    decodeTableWord 48 0x06000000000 = some (.rdDeviceId5 .sw) ∧
    decodeTableWord 48 0x36080006001 = some (.wrDeviceId5 .dbg 0x80006001#32) ∧
    decodeTableWord 48 0x26400000000 = some (.rdDeviceId6 .dbg) ∧
    decodeTableWord 48 0x16480006401 = some (.wrDeviceId6 .sw 0x80006401#32) ∧
    decodeTableWord 48 0x06800000000 = some (.rdDeviceId7 .sw) ∧
    decodeTableWord 48 0x36880006801 = some (.wrDeviceId7 .dbg 0x80006801#32) := by
  decide

theorem test_decode_manuf_state :
    decodeTableWord 48 0x26C00000000 = some (.rdManufState0 .dbg) ∧
    decodeTableWord 48 0x16C80006C01 = some (.wrManufState0 .sw 0x80006C01#32) ∧
    decodeTableWord 48 0x07000000000 = some (.rdManufState1 .sw) ∧
    decodeTableWord 48 0x37080007001 = some (.wrManufState1 .dbg 0x80007001#32) ∧
    decodeTableWord 48 0x27400000000 = some (.rdManufState2 .dbg) ∧
    decodeTableWord 48 0x17480007401 = some (.wrManufState2 .sw 0x80007401#32) ∧
    decodeTableWord 48 0x07800000000 = some (.rdManufState3 .sw) ∧
    decodeTableWord 48 0x37880007801 = some (.wrManufState3 .dbg 0x80007801#32) ∧
    decodeTableWord 48 0x27C00000000 = some (.rdManufState4 .dbg) ∧
    decodeTableWord 48 0x17C80007C01 = some (.wrManufState4 .sw 0x80007C01#32) ∧
    decodeTableWord 48 0x08000000000 = some (.rdManufState5 .sw) ∧
    decodeTableWord 48 0x38080008001 = some (.wrManufState5 .dbg 0x80008001#32) ∧
    decodeTableWord 48 0x28400000000 = some (.rdManufState6 .dbg) ∧
    decodeTableWord 48 0x18480008401 = some (.wrManufState6 .sw 0x80008401#32) ∧
    decodeTableWord 48 0x08800000000 = some (.rdManufState7 .sw) ∧
    decodeTableWord 48 0x38880008801 = some (.wrManufState7 .dbg 0x80008801#32) := by
  decide

theorem test_decode_unmapped :
    decodeTableWord 48 0x23000000000 = some (.rdUnmapped30 .dbg) ∧
    decodeTableWord 48 0x13080003001 = some (.wrUnmapped30 .sw 0x80003001#32) ∧
    decodeTableWord 48 0x03400000000 = some (.rdUnmapped34 .sw) ∧
    decodeTableWord 48 0x33480003401 = some (.wrUnmapped34 .dbg 0x80003401#32) ∧
    decodeTableWord 48 0x28C00000000 = some (.rdOutOfRange8C8C .dbg) ∧
    decodeTableWord 48 0x18C80008C01 = some (.wrOutOfRange8C8C .sw 0x80008C01#32) := by
  decide

theorem test_decode_out_of_range :
    decodeTableWord 48 0x09000000000 = some (.rdOutOfRange909C .sw 0x90#8) ∧
    decodeTableWord 48 0x390FFFFFFFF = some (.wrOutOfRange909C .dbg 0x90#8 0xFFFFFFFF#32) ∧
    decodeTableWord 48 0x29C00000000 = some (.rdOutOfRange909C .dbg 0x9C#8) ∧
    decodeTableWord 48 0x19CFFFFFFFF = some (.wrOutOfRange909C .sw 0x9C#8 0xFFFFFFFF#32) ∧
    decodeTableWord 48 0x0A000000000 = some (.rdOutOfRangeA0Bc .sw 0xA0#8) ∧
    decodeTableWord 48 0x3A0FFFFFFFF = some (.wrOutOfRangeA0Bc .dbg 0xA0#8 0xFFFFFFFF#32) ∧
    decodeTableWord 48 0x2BC00000000 = some (.rdOutOfRangeA0Bc .dbg 0xBC#8) ∧
    decodeTableWord 48 0x1BCFFFFFFFF = some (.wrOutOfRangeA0Bc .sw 0xBC#8 0xFFFFFFFF#32) ∧
    decodeTableWord 48 0x0C000000000 = some (.rdOutOfRangeC0Fc .sw 0xC0#8) ∧
    decodeTableWord 48 0x3C0FFFFFFFF = some (.wrOutOfRangeC0Fc .dbg 0xC0#8 0xFFFFFFFF#32) ∧
    decodeTableWord 48 0x2FC00000000 = some (.rdOutOfRangeC0Fc .dbg 0xFC#8) ∧
    decodeTableWord 48 0x1FCFFFFFFFF = some (.wrOutOfRangeC0Fc .sw 0xFC#8 0xFFFFFFFF#32) := by
  decide

/-- R63: the words of the pseudo-stimuli, the bits above the fixed ones being ignored. -/
theorem test_decode_pseudo :
    decodeTableWord 48 0x10C00000096 = some (.claim .sw 0#24) ∧
    decodeTableWord 48 0x30CFFFFFF96 = some (.claim .dbg 0xFFFFFF#24) ∧
    decodeTableWord 48 0x10C00000069 = some (.release .sw 0#24) ∧
    decodeTableWord 48 0x30C00000169 = some (.release .dbg 1#24) ∧
    decodeTableWord 48 0x11400000001 = some (.start .sw 0#31) ∧
    decodeTableWord 48 0x314FFFFFFFF = some (.start .dbg 0x7FFFFFFF#31) ∧
    decodeTableWord 48 0x10800000000 = some (.lockClaim .sw 0#31) ∧
    decodeTableWord 48 0x308FFFFFFFE = some (.lockClaim .dbg 0x7FFFFFFF#31) := by
  and_intros <;> decide

/-- R62: the five event codes. -/
theorem test_decode_events :
    decodeTableWord 8 0x01 = some .reset ∧
    decodeTableWord 8 0x02 = some (.init EvtOperands.zero.info false) ∧
    decodeTableWord 8 0x03 = some (.otpAck false) ∧
    decodeTableWord 8 0x04 = some (.hashRsp 0#128 0#128 false) ∧
    decodeTableWord 8 0x05 = some .escalate := by
  and_intros <;> decide

/-- R44, B37, R62: what is no stimulus. -/
theorem test_decode_refuses :
    decodeTableWord 48 0x00500000000 = none ∧ decodeTableWord 48 0x0FE00000000 = none ∧
    decodeTableWord 8 0x00 = none ∧ decodeTableWord 8 0x06 = none ∧ decodeTableWord 8 0xFF = none := by
  and_intros <;> decide

/-- The `wdata` of a read is ignored (R61). -/
theorem test_decode_read_ignores_wdata : decodeTableWord 48 0x024DEADBEEF = some (.rdTransitionToken2 .sw) := by
  decide

/-! ### Small states -/

/-- The construction-time Token Store of 95 section 0, nothing loaded. -/
def refTokens : TokenStore :=
  ⟨TokenEntry.ofZero refConfig, TokenEntry.ofRawUnlock refConfig, TokenEntry.unset, TokenEntry.unset, TokenEntry.unset⟩

/-- After `RESET` (95 section 0). -/
def fresh : State := { State.reset with tokens := refTokens }

/-- After `RESET ; INIT info=INFO_RAW0, force_raw=0`. -/
def idle : State := { fresh with fsm := .idle, status := { Status.zero with initialized := true } }

/-- The same, the mutex held by SW. -/
def owned : State := { idle with owner := some .sw }

/-- What is seen of a next state. -/
def seen {α : Type} (r : Result) (f : State → α) : Option α :=
  match r with
  | .next t => some (f t)
  | .fault _ => none
  | .refused _ => none

/-- What is seen after the stimulus of a BUS word. -/
def bus {α : Type} (s : State) (w : BusWord) (f : State → α) : Option α :=
  seen (step { s with inputs := [⟨.bus .word w, true⟩] }) f

/-- The operand of INIT of 95 section 0 (`INFO_...`). -/
def infoOf (l : LcState) (k : Fin 25) (sv : SecretValid) (v : Bool) : OtpInfo :=
  ⟨refConfig.lcStateTable l, refConfig.lcCntTable k, true, sv, ⟨~~~0x11#128, v⟩, ⟨~~~0x22#128, v⟩, ⟨~~~0x33#128, v⟩⟩

/-! ### Register front-end: 95 section 2.5 -/

/-- B1, B4, B6, B17, B20, B23, B15, each with its word. -/
theorem test_reads :
    bus idle 0x00000000000#42 State.rdata = some (some 0x00000000#32) ∧
    bus idle 0x20400000000#42 State.rdata = some (some 0x00000003#32) ∧
    bus fresh 0x00400000000#42 State.rdata = some (some 0x00000000#32) ∧
    bus idle 0x00800000000#42 State.rdata = some (some 0x00000001#32) ∧
    bus owned 0x00C00000000#42 State.rdata = some (some 0x00000096#32) ∧
    bus owned 0x20C00000000#42 State.rdata = some (some 0x00000069#32) ∧
    bus idle 0x00C00000000#42 State.rdata = some (some 0x00000069#32) ∧
    bus owned 0x01000000000#42 State.rdata = some (some 1#32) ∧
    bus owned 0x21000000000#42 State.rdata = some (some 0#32) ∧
    bus { owned with fsm := .cntProg } 0x01000000000#42 State.rdata = some (some 0#32) ∧
    bus idle 0x01400000000#42 State.rdata = some (some 0#32) ∧
    bus { idle with ctrl := ⟨true, true⟩ } 0x21800000000#42 State.rdata = some (some 3#32) ∧
    bus { idle with ctrl := ⟨true, false⟩ } 0x01800000000#42 State.rdata = some (some 1#32) := by
  and_intros <;> decide

/-- B26, B27: each requester reads its own slot. -/
theorem test_reads_of_the_own_slot :
    bus { idle with slotSw := ⟨5, 1, 2, 3, 4⟩ } 0x01C00000000#42 State.rdata = some (some 1#32) ∧
    bus { idle with slotSw := ⟨5, 1, 2, 3, 4⟩ } 0x02000000000#42 State.rdata = some (some 2#32) ∧
    bus { idle with slotSw := ⟨5, 1, 2, 3, 4⟩ } 0x02400000000#42 State.rdata = some (some 3#32) ∧
    bus { idle with slotSw := ⟨5, 1, 2, 3, 4⟩ } 0x02800000000#42 State.rdata = some (some 4#32) ∧
    bus { idle with slotSw := ⟨5, 1, 2, 3, 4⟩ } 0x02C00000000#42 State.rdata = some (some 5#32) ∧
    bus { idle with slotSw := ⟨5, 1, 2, 3, 4⟩ } 0x22400000000#42 State.rdata = some (some 0#32) ∧
    bus { idle with slotDbg := ⟨5, 1, 2, 3, 4⟩ } 0x22C00000000#42 State.rdata = some (some 5#32) := by
  and_intros <;> decide

/-- B30, L3, L4, L7, L9: the three views. -/
theorem test_reads_of_the_views :
    bus idle 0x03800000000#42 State.rdata = some (some 0#32) ∧
    bus { idle with lcState := .real .testUnlocked3 } 0x03800000000#42 State.rdata = some (some 0x0E739CE7#32) ∧
    bus { idle with lcState := .real .dev } 0x23800000000#42 State.rdata = some (some 0x21084210#32) ∧
    bus { idle with fsm := .postTrans } 0x03800000000#42 State.rdata = some (some 0x2B5AD6B5#32) ∧
    bus { idle with fsm := .escalate } 0x03800000000#42 State.rdata = some (some 0x2D6B5AD6#32) ∧
    bus { idle with fsm := .invalid } 0x03800000000#42 State.rdata = some (some 0x2F7BDEF7#32) ∧
    bus { idle with fsm := .scrap, lcState := .real .scrap } 0x03800000000#42 State.rdata = some (some 0x294A5294#32) ∧
    bus { idle with lcCnt := .count 24 } 0x03C00000000#42 State.rdata = some (some 0x18#32) ∧
    bus { idle with fsm := .invalid, lcCnt := .cntInvalid } 0x03C00000000#42 State.rdata = some (some 0x1F#32) ∧
    bus idle 0x04000000000#42 State.rdata = some (some 0#32) ∧
    bus { idle with idState := .personalized } 0x04000000000#42 State.rdata = some (some 0x55555555#32) ∧
    bus { idle with fsm := .invalid, idState := .idInvalid } 0x24000000000#42 State.rdata = some (some 0xAAAAAAAA#32) := by
  and_intros <;> decide

/-- Z3, B3: before INIT a read of a view draws a free value, and the next one is another. -/
theorem test_reads_before_init_draw :
    bus fresh 0x03800000000#42 State.freeCtr = some 1 ∧ bus fresh 0x03C00000000#42 State.freeCtr = some 1 ∧
    bus fresh 0x04000000000#42 State.freeCtr = some 1 ∧ bus idle 0x04000000000#42 State.freeCtr = some 0 ∧
    bus { fresh with fsm := .escalate } 0x03C00000000#42 State.freeCtr = some 1 := by
  and_intros <;> decide

/-- B32 to B34: the configuration words, on the reference configuration. -/
theorem test_reads_of_the_configuration :
    regRead refConfig idle .sw 0x44#8 = 0x40014002#32 ∧ regRead refConfig idle .dbg 0x48#8 = 0x00000001#32 ∧
    regRead refConfig idle .sw 0x4C#8 = 0xD0000000#32 ∧ regRead refConfig idle .sw 0x68#8 = 0xD0000007#32 ∧
    regRead refConfig idle .dbg 0x6C#8 = 0xA0000000#32 ∧ regRead refConfig idle .dbg 0x88#8 = 0xA0000007#32 := by
  and_intros <;> decide

/-- B35, B36: where no register is. -/
theorem test_reads_where_no_register_is :
    bus idle 0x03000000000#42 (fun t => (t.rdata, t.diag)) = some (some 0#32, [.guestError]) ∧
    bus idle 0x08C00000000#42 (fun t => (t.rdata, t.diag)) = some (some 0#32, [.guestError]) ∧
    bus idle 0x2FC00000000#42 (fun t => (t.rdata, t.diag)) = some (some 0#32, [.guestError]) := by
  and_intros <;> decide

/-- B2, B5, B19, B31, B35, B36: writes without effect; only ALERT_TEST is no guest error. -/
theorem test_writes_without_effect :
    bus idle 0x10000000007#42 (fun t => { t with inputs := [], otpAccept := false }) = some idle ∧
    bus idle 0x104FFFFFFFF#42 (fun t => (t.statusValue, t.diag)) = some (3#32, [.guestError]) ∧
    bus owned 0x11000000001#42 (fun t => (t.owner, t.diag)) = some (some .sw, [.guestError]) ∧
    bus idle 0x13821084210#42 (fun t => (t.lcState, t.diag)) = some (.real .raw, [.guestError]) ∧
    bus idle 0x13400000001#42 (fun t => (t.fsm, t.diag)) = some (.idle, [.guestError]) ∧
    bus idle 0x3FCFFFFFFFF#42 (fun t => (t.fsm, t.diag)) = some (.idle, [.guestError]) := by
  and_intros <;> decide

/-- B7 to B10: the claim write-enable; only bit 0 is looked at. -/
theorem test_claim_enable :
    bus owned 0x108FFFFFFFE#42 (fun t => (t.claimRegwen, t.diag)) = some (false, []) ∧
    bus owned 0x30800000000#42 (fun t => (t.claimRegwen, t.diag)) = some (true, [.guestError]) ∧
    bus { owned with fsm := .postTrans } 0x10800000000#42 (fun t => (t.claimRegwen, t.diag)) = some (true, [.guestError]) ∧
    bus { owned with claimRegwen := false } 0x10800000001#42 (fun t => (t.claimRegwen, t.diag)) = some (false, []) := by
  and_intros <;> decide

/-- B11, F-M3, F-M7 to F-M10: claim. -/
theorem test_claim :
    bus idle 0x10CFFFFFF96#42 State.owner = some (some .sw) ∧
    bus owned 0x30C00000096#42 (fun t => (t.owner, t.diag)) = some (some .sw, []) ∧
    bus { owned with fsm := .postTrans } 0x10C00000096#42 State.fsm = some .postTrans ∧
    bus { idle with fsm := .postTrans } 0x30C00000096#42 (fun t => (t.owner, t.fsm)) = some (some .dbg, .idle) ∧
    bus { idle with fsm := .cntProg } 0x30C00000096#42 (fun t => (t.owner, t.fsm)) = some (some .dbg, .cntProg) ∧
    bus fresh 0x10C00000096#42 (fun t => (t.owner, t.fsm)) = some (some .sw, .reset) := by
  and_intros <;> decide

/-- B12, B13, B16, F-M4, F-M6: release, by 0x69 and by every other value but 0x96. -/
theorem test_release :
    bus owned 0x10C00000069#42 State.owner = some none ∧ bus owned 0x10C00000000#42 State.owner = some none ∧
    bus owned 0x10C00000097#42 State.owner = some none ∧
    bus { owned with claimRegwen := false } 0x10C00000069#42 (fun t => (t.owner, t.diag)) = some (some .sw, [.guestError]) ∧
    bus owned 0x30C00000069#42 (fun t => (t.owner, t.diag)) = some (some .sw, []) ∧
    bus idle 0x10C00000069#42 (fun t => (t.owner, t.diag)) = some (none, []) := by
  and_intros <;> decide

/-- B23 to B26, B28, B29: the gated writes. -/
theorem test_gated_writes :
    bus owned 0x118FFFFFFFF#42 State.ctrl = some ⟨true, true⟩ ∧
    bus owned 0x11800000001#42 State.ctrl = some ⟨true, false⟩ ∧
    bus owned 0x31800000003#42 (fun t => (t.ctrl, t.diag)) = some (⟨false, false⟩, [.guestError]) ∧
    bus idle 0x124DEADBEEF#42 (fun t => (t.slotSw, t.diag)) = some (Slot.zero, [.guestError]) ∧
    bus owned 0x11C33221100#42 (fun t => (t.slotSw, t.slotDbg)) = some (⟨0, 0x33221100, 0, 0, 0⟩, Slot.zero) ∧
    bus owned 0x12077665544#42 State.slotSw = some ⟨0, 0, 0x77665544, 0, 0⟩ ∧
    bus owned 0x124DEADBEEF#42 State.slotSw = some ⟨0, 0, 0, 0xDEADBEEF, 0⟩ ∧
    bus owned 0x128FFEEDDCC#42 State.slotSw = some ⟨0, 0, 0, 0, 0xFFEEDDCC⟩ ∧
    bus owned 0x12CFFFFFFFF#42 State.slotSw = some ⟨0x3FFFFFFF, 0, 0, 0, 0⟩ ∧
    bus owned 0x12C82108421#42 State.slotSw = some ⟨0x02108421, 0, 0, 0, 0⟩ := by
  and_intros <;> decide

/-- B21, F2, F3: no command, and a start that is ignored. -/
theorem test_command_without_start :
    bus owned 0x11400000000#42 (fun t => (t.fsm, t.diag)) = some (.idle, []) ∧
    bus owned 0x31400000001#42 (fun t => (t.fsm, t.diag)) = some (.idle, [.guestError]) ∧
    bus idle 0x11400000001#42 (fun t => (t.fsm, t.diag)) = some (.idle, [.guestError]) := by
  and_intros <;> decide

/-! ### The FSM: 95 section 2.4 -/

/-- What is seen of SW's start with a given target and answer of the backend. -/
def go (s : State) (target : Word) (acc : Bool) : Option (FsmState × LcCntVal × Bool × Word × Bool) :=
  seen (start refConfig .sw { s with slotSw := { s.slotSw with target := target }, otpAccept := acc })
    (fun t => (t.fsm, t.lcCnt, t.otpPending, t.statusValue, t.clkBypReq))

/-- F1, F4 to F9, F12, F13: the persistent path. What is seen: FSM, count, the wait, STATUS, the clock request. -/
theorem test_start_persistent :
    go owned 0x02108421#32 true = some (.cntProg, .count 1, true, 0x001#32, false) ∧
    go { owned with lcCnt := .count 23 } 0x02108421#32 true = some (.cntProg, .count 24, true, 0x001#32, false) ∧
    go { owned with lcCnt := .count 24 } 0x02108421#32 true = some (.postTrans, .count 24, false, 0x011#32, false) ∧
    go { owned with lcState := .real .dev, lcCnt := .count 7 } 0x294A5294#32 true
      = some (.cntProg, .count 24, true, 0x001#32, false) ∧
    go { owned with lcState := .real .dev, lcCnt := .count 24 } 0x294A5294#32 true
      = some (.postTrans, .count 24, false, 0x011#32, false) ∧
    go owned 0x02108421#32 false = some (.postTrans, .count 1, false, 0x101#32, false) ∧
    go owned 0x02108420#32 true = some (.cntProg, .count 1, true, 0x001#32, false) ∧
    go { owned with ctrl := ⟨true, false⟩ } 0x02108421#32 true = some (.cntProg, .count 1, true, 0x005#32, true) ∧
    go { owned with ctrl := ⟨true, false⟩, lcState := .real .testUnlocked0, lcCnt := .count 1 } 0x21084210#32 true
      = some (.cntProg, .count 2, true, 0x001#32, false) := by
  and_intros <;> decide

/-- What is seen of SW's start with the volatile override. -/
def vol (target : Word) (tok : Slot) (ts : TokenStore) : Option (FsmState × LcStateVal × LcCntVal × Bool × Word) :=
  seen (start refConfig .sw { owned with
      ctrl := ⟨false, true⟩, slotSw := { tok with target := target }, tokens := ts, otpAccept := true })
    (fun t => (t.fsm, t.lcState, t.lcCnt, t.volUnlock, t.statusValue))

/-- `H_RU`, the hashed raw-unlock token, in a slot. -/
def hashed : Slot := ⟨0, 0xCCDDEEFF, 0x8899AABB, 0x44556677, 0x00112233⟩

/-- `T_RU`, the raw-unlock token, in a slot. -/
def token : Slot := ⟨0, 0x33221100, 0x77665544, 0xBBAA9988, 0xFFEEDDCC⟩

/-- V1 to V3, V5: the volatile path, and where its condition is false. -/
theorem test_start_volatile :
    vol 0x02108421#32 hashed refTokens = some (.idle, .real .testUnlocked0, .count 0, true, 0x00B#32) ∧
    vol 0x02108421#32 token refTokens = some (.postTrans, .real .raw, .count 0, false, 0x041#32) ∧
    vol 0x06318C63#32 token refTokens = some (.cntProg, .real .raw, .count 1, false, 0x001#32) ∧
    vol 0x02108421#32 hashed { refTokens with rawUnlock := TokenEntry.unset }
      = some (.cntProg, .real .raw, .count 1, false, 0x001#32) := by
  and_intros <;> decide

/-- F1, F6: the pair that is written: the CURRENT state and the NEW count. -/
theorem test_start_requests :
    seen (start refConfig .sw { owned with slotSw := { Slot.zero with target := 0x02108421#32 }, otpAccept := true }) State.emitted
      = some [.programReq (refConfig.lcStateTable .raw) (refConfig.lcCntTable 1)] := by
  decide

/-- A transition in flight of SW: target, token and FSM state given. -/
def flight (f : FsmState) (l : LcState) (target : Word) (h : HashState) : State :=
  { owned with fsm := f, lcState := .real l, lcCnt := .count 1, slotSw := ⟨target, 0x33221100, 0x77665544, 0xBBAA9988, 0xFFEEDDCC⟩, hashState := h, otpAccept := true }

/-- What is seen of an acknowledge. -/
def ack (s : State) (ok : Bool) : Option (FsmState × LcStateVal × Bool × Word) :=
  seen (otpAck refConfig ok s) (fun t => (t.fsm, t.lcState, t.otpPending, t.statusValue))

/-- F10, F14 to F19, F25: the acknowledge. -/
theorem test_otpAck :
    ack { flight .cntProg .raw 0x02108420#32 .hIdle with otpPending := true } true = some (.postTrans, .real .raw, false, 0x021#32) ∧
    ack { flight .cntProg .raw 0x02108421#32 .hIdle with otpPending := true } false = some (.postTrans, .real .raw, false, 0x101#32) ∧
    ack { flight .cntProg .raw 0x02108421#32 .hIdle with otpPending := true } true = some (.tokenHash, .real .raw, false, 0x001#32) ∧
    ack owned true = some (.idle, .real .raw, false, 0x003#32) ∧
    ack { flight .transProg .raw 0x02108421#32 .hIdle with otpPending := true } true
      = some (.postTrans, .real .testUnlocked0, false, 0x009#32) ∧
    ack { flight .transProg .raw 0x02108421#32 .hIdle with otpPending := true } false = some (.postTrans, .real .raw, false, 0x101#32) ∧
    ack { flight .transProg .raw 0x294A5294#32 .hIdle with otpPending := true } true = some (.escalate, .real .scrap, false, 0x009#32) ∧
    ack { flight .escalate .raw 0x02108421#32 .hIdle with otpPending := true } true = some (.escalate, .real .raw, false, 0x001#32) := by
  and_intros <;> decide

/-- H1, H2: the two hash requests and their bytes. -/
theorem test_hash_requests :
    seen (requestHash refConfig .sw (flight .tokenHash .raw 0x02108421#32 .hIdle)) (fun t => (t.hashState, t.emitted))
      = some (.hFirstSent, [.hashRequest 0 [0x00, 0x11, 0x22, 0x33, 0x44, 0x55, 0x66, 0x77] false]) ∧
    seen (hashRsp refConfig 1 2 false (flight .tokenHash .raw 0x02108421#32 .hFirstSent)) (fun t => (t.hashState, t.digest, t.fsm, t.emitted))
      = some (.hSecondSent, 0#128, .tokenHash, [.hashRequest 0 [0x88, 0x99, 0xAA, 0xBB, 0xCC, 0xDD, 0xEE, 0xFF] true]) := by
  and_intros <;> decide

/-- What is seen of a hash response. -/
def rsp (s : State) (a b : Token) (d : Bool) : Option (FsmState × HashState × Token × Word × Bool) :=
  seen (hashRsp refConfig a b d s) (fun t => (t.fsm, t.hashState, t.digest, t.statusValue, t.otpPending))

/-- H3, H5, H7, H9, F20 to F23: the final response. -/
theorem test_hashRsp :
    rsp (flight .escalate .raw 0x02108421#32 .hSecondSent)
        0x0123456789ABCDEFFEDCBA9876543210#128 0xFFFFFFFFFFFFFFFF0000000000000000#128 true
      = some (.escalate, .hIdle, 0xFEDCBA9876543210FEDCBA9876543210#128, 0x001#32, false) ∧
    rsp owned 1 2 true = some (.idle, .hIdle, 0#128, 0x003#32, false) ∧
    rsp (flight .tokenHash .raw 0x02108421#32 .hFirstSent) 1 2 true = none ∧
    rsp (flight .tokenHash .raw 0x02108421#32 .hSecondSent) 1 2 false = none ∧
    rsp (flight .tokenHash .testUnlocked0 0x04210842#32 .hSecondSent) 0 (~~~0#128) true
      = some (.transProg, .hIdle, ~~~0#128, 0x001#32, true) ∧
    rsp (flight .tokenHash .testUnlocked0 0x04210842#32 .hSecondSent) 7 7 true = some (.postTrans, .hIdle, 0#128, 0x041#32, false) ∧
    rsp (flight .tokenHash .testLocked0 0x06318C63#32 .hSecondSent) 7 7 true = some (.postTrans, .hIdle, 0#128, 0x041#32, false) ∧
    rsp { flight .tokenHash .testUnlocked0 0x04210842#32 .hSecondSent with otpAccept := false } 0 (~~~0#128) true
      = some (.postTrans, .hIdle, ~~~0#128, 0x101#32, false) := by
  and_intros <;> decide

/-- F24, F26: escalation writes `fsm` alone. -/
theorem test_escalate :
    seen (exec .escalate owned) (fun t => { t with fsm := .idle }) = some owned ∧
    seen (exec .escalate { idle with fsm := .scrap }) State.fsm = some .escalate := by
  and_intros <;> decide

/-- A state in which every element differs from its reset value. -/
def dirty : State :=
  { flight .escalate .dev 0x21084210#32 .hFirstSent with
    ctrl := ⟨true, true⟩, claimRegwen := false, clkBypReq := true, volUnlock := true, otpPending := true, initErr := 5#6 }

/-- Z1: the reset. -/
theorem test_reset :
    seen (exec .reset dirty) (fun t => (t.fsm, t.owner, t.claimRegwen)) = some (.reset, none, true) ∧
    seen (exec .reset dirty) (fun t => (t.slotSw, t.ctrl, t.status)) = some (Slot.zero, ⟨false, false⟩, Status.zero) ∧
    seen (exec .reset dirty) (fun t => (t.clkBypReq, t.volUnlock, t.otpPending)) = some (false, false, false) ∧
    seen (exec .reset dirty) (fun t => (t.hashState, t.initErr, t.tokens)) = some (.hIdle, 0#6, refTokens) := by
  and_intros <;> decide

/-! ### The loader: 95 section 2.3 -/

/-- What is seen of INIT: state, count, the error bitmap, FSM, STATUS, LC_STATE. -/
def loaded (info : OtpInfo) (fr : Bool) : LcStateVal × LcCntVal × BitVec 6 × FsmState × Word × Word :=
  let t := initReaction refConfig info fr fresh
  (t.lcState, t.lcCnt, t.initErr, t.fsm, t.statusValue, lcStateValue t)

/-- L2, L4, L10, L15: the fully valid class, and a scrapped device. -/
theorem test_init_valid :
    loaded (infoOf .raw 24 .secretFalse false) false = (.real .raw, .count 24, 0#6, .idle, 0x003#32, 0x00000000#32) ∧
    loaded (infoOf .dev 5 .secretTrue true) false = (.real .dev, .count 5, 0#6, .idle, 0x003#32, 0x21084210#32) ∧
    loaded (infoOf .scrap 24 .secretFalse false) false = (.real .scrap, .count 24, 0#6, .scrap, 0x001#32, 0x294A5294#32) ∧
    loaded (infoOf .dev 5 .secretTrue true) true = (.real .raw, .count 5, 0#6, .idle, 0x003#32, 0x00000000#32) := by
  and_intros <;> decide

/-- R118, R119: a string of another word count equals no table entry (log entry 30). -/
theorem test_init_other_word_counts :
    (loaded { infoOf .raw 24 .secretFalse false with stateEnc := List.replicate 19 0#16 } false).1 = .lcsInvalid ∧
    (loaded { infoOf .raw 24 .secretFalse false with cntEnc := List.replicate 25 0#16 } false).2.1 = .cntInvalid := by
  and_intros <;> decide

/-- The error bitmap, FSM, STATUS and LC_STATE of INIT. -/
def bad (info : OtpInfo) (fr : Bool) : BitVec 6 × FsmState × Word × Word := (loaded info fr).2.2

/-- L5 to L7, L11 to L13, L16: the checks. -/
theorem test_init_invalid :
    bad (infoOf .dev 0 .secretFalse false) false = (0b010000#6, .invalid, 0x201#32, 0x2F7BDEF7#32) ∧
    bad (infoOf .dev 5 .secretTrue false) false = (0b100000#6, .invalid, 0x201#32, 0x2F7BDEF7#32) ∧
    bad (infoOf .prod 9 .secretCorrupt false) false = (0b001000#6, .invalid, 0x201#32, 0x2F7BDEF7#32) ∧
    bad (infoOf .scrap 0 .secretFalse false) false = (0b010000#6, .invalid, 0x201#32, 0x2F7BDEF7#32) ∧
    bad { infoOf .rma 6 .secretFalse false with lcValid := false } false = (0b000001#6, .invalid, 0x201#32, 0x2F7BDEF7#32) ∧
    bad { infoOf .rma 6 .secretCorrupt false with
      lcValid := false, stateEnc := List.replicate 20 7#16, cntEnc := List.replicate 24 7#16 } false
      = (0b001101#6, .invalid, 0x201#32, 0x2F7BDEF7#32) ∧
    bad { infoOf .prod 9 .secretFalse false with cntEnc := List.replicate 24 7#16 } true
      = (0b000100#6, .invalid, 0x201#32, 0x2F7BDEF7#32) := by
  and_intros <;> decide

/-- L20: whole-string equality: one word of twenty differs. -/
theorem test_decodeState_nearest :
    decodeState refConfig ((refConfig.lcStateTable .dev).set 19 0#16) = .lcsInvalid := by
  decide

/-! ### Token Store and lines: 95 sections 2.1 and 2.6 -/

/-- How many entries of the reference matrix hold a kind. -/
def entries (k : TokenKind) : Nat := ((LcState.all.flatMap (fun f => LcState.all.map (refMatrix f))).filter (· == k)).length

/-- T28: the entry counts of the reference matrix. -/
theorem test_matrix_counts :
    entries .rawUnlock = 8 ∧ entries .zero = 56 ∧ entries .testUnlock = 28 ∧ entries .testExit = 45 ∧ entries .rma = 2 ∧ entries .invalid = 302 := by
  and_intros <;> decide +kernel

/-- T1, T3, T6, T7, T8, T9, T11, T12, T14, T16: entries of the reference matrix. -/
theorem test_matrix_entries :
    refMatrix .raw .testUnlocked0 = .rawUnlock ∧ refMatrix .raw .testLocked0 = .invalid ∧
    refMatrix .testUnlocked2 .testLocked2 = .zero ∧ refMatrix .testUnlocked2 .testLocked1 = .invalid ∧
    refMatrix .testLocked2 .testUnlocked3 = .testUnlock ∧ refMatrix .testLocked2 .testUnlocked2 = .invalid ∧
    refMatrix .testUnlocked7 .prod = .testExit ∧ refMatrix .testUnlocked7 .rma = .zero ∧
    refMatrix .dev .rma = .rma ∧ refMatrix .dev .prod = .invalid := by
  and_intros <;> decide

/-- T21 to T27: matches. -/
theorem test_match :
    matchToken refTokens (~~~0#128) .zero = true ∧ matchToken refTokens 0#128 .zero = false ∧
    matchToken refTokens 0x00112233445566778899AABBCCDDEEFF#128 .rawUnlock = true ∧
    matchToken refTokens 0x00112233445566778899AABBCCDDEEFE#128 .rawUnlock = false ∧
    matchToken refTokens 0#128 .invalid = false ∧ matchToken refTokens 0#128 .rma = false ∧
    matchToken { refTokens with rawUnlock := TokenEntry.unset } 0x00112233445566778899AABBCCDDEEFF#128 .rawUnlock = false := by
  and_intros <;> decide

/-- C2 to C10, C13 to C18: the lines. -/
theorem test_lines :
    refBroadcast .reset (.real .dev) .blank = 0x0000#13 ∧ refBroadcast .idle (.real .raw) .blank = 0x0001#13 ∧
    refBroadcast .idle (.real .testLocked3) .blank = 0x0001#13 ∧ refBroadcast .idle (.real .testUnlocked0) .blank = 0x081F#13 ∧
    refBroadcast .idle (.real .testUnlocked7) .blank = 0x081B#13 ∧ refBroadcast .idle (.real .dev) .blank = 0x0F38#13 ∧
    refBroadcast .idle (.real .dev) .personalized = 0x1E38#13 ∧ refBroadcast .idle (.real .prod) .personalized = 0x1E30#13 ∧
    refBroadcast .idle (.real .prodEnd) .blank = 0x0F30#13 ∧ refBroadcast .idle (.real .rma) .personalized = 0x1F3F#13 ∧
    refBroadcast .transProg (.real .raw) .blank = 0x0081#13 ∧ refBroadcast .transProg (.real .dev) .personalized = 0x1EB8#13 ∧
    refBroadcast .postTrans (.real .dev) .blank = 0x0000#13 ∧ refBroadcast .scrap (.real .scrap) .blank = 0x0040#13 ∧
    refBroadcast .invalid .lcsInvalid .idInvalid = 0x0040#13 ∧ refBroadcast .escalate (.real .dev) .personalized = 0x0040#13 := by
  and_intros <;> decide

/-! ### The hypotheses of the statements can be met

One theorem for each statement that has hypotheses: concrete states and operands that meet all the hypotheses of a clause together, at boundary values. -/

theorem decode_testUnlocked0 : decodeTarget 0x02108421#32 = some .testUnlocked0 := by
  decide

theorem witness_DecodeOfEncodeGivesTheInstruction :
    Instr.wellFormed (.wrOutOfRangeC0Fc .dbg 0xFC#8 0xFFFFFFFF#32) = true ∧ Instr.wellFormed (.rdOutOfRange909C .sw 0x90#8) = true ∧
    Instr.wellFormed (.lockClaim .sw 0x7FFFFFFF#31) = true ∧ Instr.wellFormed (.init EvtOperands.zero.info true) = true := by
  and_intros <;> decide

theorem witness_EveryAlignedBusWordIsOneStimulus :
    offAligned (busOff 0x00000000000#42) = true ∧ offAligned (busOff 0x3FCFFFFFFFF#42) = true := by
  and_intros <;> decide

theorem witness_WhatIsNoStimulusIsRefused :
    (∀ inp, ({ idle with inputs := [inp] } : State).inputs = inp :: []) ∧
    (busOff 0x00100000000#42).toNat % 4 ≠ 0 ∧ (busOff 0x3FFFFFFFFFF#42).toNat % 4 ≠ 0 ∧
    (0x00#8).toNat = 0 ∧ 6 ≤ (0x06#8).toNat ∧ 6 ≤ (0xFF#8).toNat :=
  ⟨fun _ => rfl, by decide, by decide, by decide, by decide, by decide⟩

theorem witness_StepRunsTheDecodedInstruction :
    (∃ (s : State) (inp : Input) (rest : List Input) (i : Instr), s.inputs = inp :: rest ∧ decode inp.stim = .ok i) ∧
    (∃ s : State, s.inputs = []) :=
  ⟨⟨{ idle with inputs := [⟨.bus .word 0x11400000001#42, true⟩] }, _, _, .start .sw 0, rfl, rfl⟩, ⟨idle, rfl⟩⟩

theorem witness_ReadOfLcStateReturnsTheView :
    (∀ f, ({ idle with fsm := f } : State).fsm = f) ∧
    (idle.fsm.terminal = false ∧ idle.fsm ≠ .postTrans ∧ idle.fsm ≠ .reset ∧ idle.lcState = .real .raw) ∧
    (∃ s : State, s.fsm.terminal = false ∧ s.fsm ≠ .postTrans ∧ s.fsm ≠ .reset ∧ s.lcState = .real .scrap) ∧
    (∃ s : State, s.fsm.terminal = false ∧ s.fsm ≠ .postTrans ∧ s.fsm ≠ .reset ∧ s.lcState = .lcsInvalid) :=
  ⟨fun _ => rfl, ⟨rfl, by decide, by decide, rfl⟩, ⟨{ idle with lcState := .real .scrap }, rfl, by decide, by decide, rfl⟩,
    ⟨{ idle with lcState := .lcsInvalid }, rfl, by decide, by decide, rfl⟩⟩

theorem witness_ReadsOfCountAndIdReturnTheViews :
    (∀ (n : LcCntVal) (d : IdState), ∃ s : State, s.fsm ≠ .reset ∧ s.status.initialized = true ∧ s.lcCnt = n ∧ s.idState = d) ∧
    fresh.fsm = .reset ∧ (∃ s : State, s.fsm = .escalate ∧ s.status.initialized = false) :=
  ⟨fun n d => ⟨{ idle with lcCnt := n, idState := d }, (by decide : FsmState.idle ≠ .reset), rfl, rfl, rfl⟩, rfl, ⟨{ fresh with fsm := .escalate }, rfl, rfl⟩⟩

theorem witness_ReadsAgreeWithTheReadTable :
    offAligned 0x00#8 = true ∧ offAligned 0x8C#8 = true ∧ offAligned 0xFC#8 = true := by
  and_intros <;> decide

theorem witness_ReadsShowNothingOfTheOtherSlot :
    isRead (.rdTransitionTarget .dbg) = true ∧ stimulusReq (.rdTransitionTarget .dbg) = some .dbg ∧
    isRead (.rdTransitionToken0 .sw) = true ∧ stimulusReq (.rdTransitionToken0 .sw) = some .sw := by
  and_intros <;> decide

theorem witness_ClaimEnableWriteFollowsItsRule :
    (0x00000001#32).getLsbD 0 = true ∧ (0xFFFFFFFE#32).getLsbD 0 = false ∧
    (owned.owner = some .sw ∧ owned.fsm = .idle) ∧ ¬(owned.owner = some .dbg ∧ owned.fsm = .idle) ∧
    ¬(fresh.owner = some .sw ∧ fresh.fsm = .idle) := by
  and_intros <;> decide

theorem witness_ClaimOperationFollowsItsRule :
    idle.owner = none ∧ owned.owner = some .sw ∧ owned.owner = some (Requester.other .dbg) := by
  and_intros <;> decide

theorem witness_ClaimRegisterWriteFollowsItsRule :
    (∃ s : State, s.claimRegwen = false) ∧ (idle.claimRegwen = true ∧ idle.owner = none) ∧
    (owned.claimRegwen = true ∧ owned.owner ≠ none ∧ owned.owner = some .sw ∧ owned.owner ≠ some .dbg) ∧
    (0xFFFFFF96#32).extractLsb' 0 8 = 0x96#8 ∧ (0x00000097#32).extractLsb' 0 8 ≠ 0x96#8 :=
  ⟨⟨{ idle with claimRegwen := false }, rfl⟩, ⟨rfl, rfl⟩, ⟨rfl, by decide, rfl, by decide⟩, by decide, by decide⟩

theorem witness_GatedWritesFollowTheirRules :
    (owned.owner = some .sw ∧ owned.fsm = .idle) ∧ (∃ s : State, s.owner = some .dbg ∧ s.fsm = .idle) ∧
    ¬(owned.owner = some .dbg ∧ owned.fsm = .idle) ∧ (∃ s : State, ¬(s.owner = some .sw ∧ s.fsm = .idle) ∧ s.owner = some .sw) :=
  ⟨⟨rfl, rfl⟩, ⟨{ idle with owner := some .dbg }, rfl, rfl⟩, by decide, ⟨{ owned with fsm := .cntProg }, by decide, rfl⟩⟩

theorem witness_WritesAgreeWithTheWriteTable :
    offAligned 0x00#8 = true ∧ offAligned 0x2C#8 = true ∧ offAligned 0xFC#8 = true := by
  and_intros <;> decide

theorem witness_GuestErrorsHaveExactlyTheListedCauses :
    guestErrorCause idle (.start .sw 0) = true ∧ guestErrorCause owned (.rdUnmapped30 .sw) = true ∧
    (∃ t, guestErrorCause owned (.lockClaim .sw 0) = false ∧ exec (.lockClaim .sw 0) owned = .next t) ∧
    (owned.claimRegwen = true ∧ claimReq (.claim .dbg 0) = some .dbg ∧ owned.owner = some (Requester.other .dbg)) ∧
    (owned.claimRegwen = true ∧ releaseReq (.release .dbg 0) = some .dbg ∧ owned.owner ≠ some .dbg) ∧
    (1#32).getLsbD 0 = true ∧ (0#32).getLsbD 0 = false :=
  ⟨by decide, by decide, ⟨_, by decide, rfl⟩, ⟨rfl, rfl, rfl⟩, ⟨rfl, rfl, by decide⟩, by decide, by decide⟩

theorem witness_SlotsAreWrittenOnlyByTheirOwner :
    (∃ t, exec (.wrTransitionTarget .sw 1#32) owned = .next t ∧ t.slot .sw ≠ owned.slot .sw) ∧
    (∃ t, exec .reset dirty = .next t ∧ t.slot .sw ≠ dirty.slot .sw) :=
  ⟨⟨_, rfl, by decide⟩, ⟨_, rfl, by decide⟩⟩

theorem witness_OwnerChangesOnlyByClaimReleaseAndReset :
    (∃ t, exec (.claim .sw 0) idle = .next t ∧ t.owner ≠ idle.owner) ∧
    (∃ t, exec (.release .sw 0) owned = .next t ∧ t.owner ≠ owned.owner) ∧
    (∃ t, exec .reset owned = .next t ∧ t.owner ≠ owned.owner) :=
  ⟨⟨_, rfl, by decide⟩, ⟨_, rfl, by decide⟩, ⟨_, rfl, by decide⟩⟩

theorem witness_StartFollowsItsRule :
    idle.owner ≠ some .sw ∧ fresh.fsm ≠ .idle ∧
    (∃ t, owned.owner = some .sw ∧ owned.fsm = .idle ∧ start device .sw owned = .next t) :=
  ⟨by decide, by decide, ⟨_, rfl, rfl, rfl⟩⟩

theorem witness_StartCommandByANonOwnerIsIgnored :
    (0xFFFFFFFE#32).getLsbD 0 = false ∧ (1#32).getLsbD 0 = true ∧ owned.owner ≠ some .dbg ∧ fresh.fsm ≠ .idle := by
  and_intros <;> decide

/-- SW has asked for the volatile unlock with the words of a given slot. -/
def asking (v : Slot) : State := { owned with ctrl := ⟨false, true⟩, slotSw := { v with target := 0x02108421#32 } }

theorem witness_VolatileUnlockFollowsItsRule :
    (∀ v, (asking v).owner = some .sw ∧ (asking v).fsm = .idle ∧ (asking v).ctrl.volatileRawUnlock = true ∧
      (asking v).tokens.rawUnlock.valid = true ∧ (asking v).lcState = .real .raw ∧
      decodeTarget ((asking v).slot .sw).target = some .testUnlocked0) ∧
    ((asking hashed).slot .sw).token3 ++ ((asking hashed).slot .sw).token2 ++ ((asking hashed).slot .sw).token1 ++
      ((asking hashed).slot .sw).token0 = (asking hashed).tokens.rawUnlock.hashed ∧
    ((asking token).slot .sw).token3 ++ ((asking token).slot .sw).token2 ++ ((asking token).slot .sw).token1 ++
      ((asking token).slot .sw).token0 ≠ (asking token).tokens.rawUnlock.hashed :=
  ⟨fun _ => ⟨rfl, rfl, rfl, rfl, rfl, decode_testUnlocked0⟩, by decide, by decide⟩

/-- SW may start: count, backend's answer and target given. -/
def starting (n : Fin 25) (acc : Bool) (target : Word) : State :=
  { owned with lcCnt := .count n, otpAccept := acc, ctrl := ⟨true, false⟩, slotSw := { Slot.zero with target := target } }

theorem witness_PersistentStartFollowsItsRule :
    (∀ n acc target, (starting n acc target).owner = some .sw ∧ (starting n acc target).fsm = .idle ∧
      (starting n acc target).lcState = .real .raw ∧ (starting n acc target).lcCnt = .count n ∧
      volatileCond (decodeTarget ((starting n acc target).slot .sw).target) (starting n acc target) = false ∧
      (starting n acc target).otpAccept = acc) ∧
    ((24 : Fin 25) = 24 ∧ (0 : Fin 25) < 24 ∧ (23 : Fin 25) < 24) :=
  ⟨fun _ _ _ => ⟨rfl, rfl, rfl, rfl, rfl, rfl⟩, by decide⟩

/-- An INIT operand for the device. -/
def deviceInfo (l : LcState) (k : Fin 25) (sv : SecretValid) : OtpInfo :=
  { EvtOperands.zero.info with stateEnc := device.lcStateTable l, cntEnc := device.lcCntTable k, lcValid := true, secretValid := sv }

theorem witness_CountIsWrittenOnlyByLoaderAndIncrement :
    fresh.fsm = .reset ∧ (∃ t, exec (.init (deviceInfo .dev 5 .secretFalse) false) fresh = .next t ∧ t.lcCnt ≠ fresh.lcCnt) ∧
    (∃ t, exec (.start .sw 0) (starting 23 true 0x294A5294#32) = .next t ∧ t.lcCnt ≠ .count 23 ∧
      commandReq (.start .sw 0) = some .sw ∧
      volatileCond (decodeTarget ((starting 23 true 0x294A5294#32).slot .sw).target) (starting 23 true 0x294A5294#32) = false) ∧
    idle.fsm ≠ .reset :=
  ⟨rfl, ⟨_, rfl, by
      show decodeCnt device (device.lcCntTable 5) ≠ .count 0
      rw [decodeCnt_table device_wellFormed]; decide⟩,
    ⟨_, rfl, by show LcCntVal.count 24 ≠ .count 23; decide, rfl, rfl⟩, by decide⟩

theorem witness_CompletionsGoToTheStageThatWaits :
    owned.otpPending = false ∧ dirty.otpPending = true ∧ (∀ f, ({ dirty with fsm := f } : State).fsm = f) ∧
    (FsmState.idle ≠ .cntProg ∧ FsmState.idle ≠ .transProg ∧ FsmState.idle ≠ .escalate) ∧
    (∀ h, (flight .tokenHash .raw 0x02108421#32 h).hashState = h) :=
  ⟨rfl, rfl, fun _ => rfl, by decide, fun _ => rfl⟩

/-- Past a start of SW for the pair (RAW, TEST_UNLOCKED0), which every device allows. -/
def allowed (f : FsmState) (h : HashState) : State := flight f .raw 0x02108421#32 h

theorem allowed_kind (f : FsmState) (h : HashState) :
    requiredTokenFor device.transMatrix (allowed f h).lcState (allowed f h).tgt = .rawUnlock := by
  show requiredTokenFor device.transMatrix (.real .raw) (decodeTarget 0x02108421#32) = .rawUnlock
  rw [decode_testUnlocked0]
  exact device_wellFormed.matrix_raw_unlock

theorem witness_CountAckAndTransitionCheckFollowTheirRules :
    (∃ s : State, requiredTokenFor device.transMatrix s.lcState s.tgt = .invalid) ∧
    (∃ s : State, requiredTokenFor device.transMatrix s.lcState s.tgt ≠ .invalid) ∧ (allowed .tokenHash .hIdle).hashState = .hIdle ∧
    (allowed .tokenHash .hFirstSent).hashState ≠ .hIdle ∧ (allowed .tokenHash .hSecondSent).hashState ≠ .hIdle :=
  ⟨⟨flight .transCheck .raw 0x02108420#32 .hIdle, rfl⟩,
    ⟨allowed .transCheck .hIdle, by rw [allowed_kind]; decide⟩, rfl, by decide, by decide⟩

theorem witness_StateCommitAckFollowsItsRule :
    (∃ s : State, s.otpPending = true ∧ s.fsm = .transProg ∧ s.tgt = some .testUnlocked0) ∧
    (∃ s : State, s.otpPending = true ∧ s.fsm = .transProg ∧ s.tgt = some .scrap) :=
  ⟨⟨{ flight .transProg .raw 0x02108421#32 .hIdle with otpPending := true }, rfl, rfl, rfl⟩,
    ⟨{ flight .transProg .raw 0x294A5294#32 .hIdle with otpPending := true }, rfl, rfl, rfl⟩⟩

theorem witness_HashResponsesFollowTheirRules :
    (allowed .tokenHash .hFirstSent).hashState = .hFirstSent ∧
    ((allowed .escalate .hSecondSent).hashState = .hSecondSent ∧ (allowed .escalate .hSecondSent).fsm ≠ .tokenHash) ∧
    ((allowed .tokenHash .hSecondSent).hashState = .hSecondSent ∧ (allowed .tokenHash .hSecondSent).fsm = .tokenHash) := by
  and_intros <;> decide

theorem witness_TokenCheckFollowsItsRule :
    (∃ s : State, requiredTokenFor device.transMatrix s.lcState s.tgt = .invalid) ∧
    (∃ s : State, requiredTokenFor device.transMatrix s.lcState s.tgt = .rawUnlock ∧ matchToken s.tokens s.digest .rawUnlock = false ∧
      s.tokens.usable .rawUnlock = true) ∧
    (∃ s : State, requiredTokenFor device.transMatrix s.lcState s.tgt = .rawUnlock ∧ matchToken s.tokens s.digest .rawUnlock = false ∧
      s.tokens.usable .rawUnlock = false) ∧
    (∃ s : State, requiredTokenFor device.transMatrix s.lcState s.tgt = .rawUnlock ∧ matchToken s.tokens s.digest .rawUnlock = true) :=
  ⟨⟨flight .tokenHash .raw 0x02108420#32 .hIdle, rfl⟩,
    ⟨allowed .tokenHash .hIdle, allowed_kind _ _, by decide, by decide⟩,
    ⟨{ allowed .tokenHash .hIdle with tokens := { refTokens with rawUnlock := TokenEntry.unset } }, allowed_kind .tokenHash .hIdle, by decide,
      by decide⟩,
    ⟨{ allowed .tokenHash .hIdle with digest := 0x00112233445566778899AABBCCDDEEFF#128 }, allowed_kind .tokenHash .hIdle, by decide⟩⟩

theorem witness_MatchingDigestRequestsTheStateCommit :
    ∀ acc, ∃ (share0 share1 : Token) (s : State) (f l : LcState) (n : Fin 25) (e : TokenEntry),
      s.fsm = .tokenHash ∧ s.hashState = .hSecondSent ∧ s.lcState = .real f ∧ s.tgt = some l ∧ s.lcCnt = .count n ∧
      s.tokens.entry (device.transMatrix f l) = some e ∧ e.valid = true ∧ share0 ^^^ share1 = e.hashed ∧ s.otpAccept = acc :=
  fun acc => ⟨0x00112233445566778899AABBCCDDEEFF#128, 0#128, { allowed .tokenHash .hSecondSent with otpAccept := acc }, .raw, .testUnlocked0, 1,
    TokenEntry.ofRawUnlock refConfig, rfl, rfl, rfl, decode_testUnlocked0, rfl,
    by rw [device_wellFormed.matrix_raw_unlock]; rfl, rfl, by decide, rfl⟩

theorem witness_InitFollowsItsRule :
    idle.fsm ≠ .reset ∧ fresh.fsm = .reset ∧
    (loadInitialState refConfig (infoOf .dev 0 .secretFalse false) false).err ≠ 0#6 ∧
    ((loadInitialState refConfig (infoOf .scrap 24 .secretFalse false) false).err = 0#6 ∧
      (loadInitialState refConfig (infoOf .scrap 24 .secretFalse false) false).st = .real .scrap) ∧
    ((loadInitialState refConfig (infoOf .raw 24 .secretFalse false) false).err = 0#6 ∧
      (loadInitialState refConfig (infoOf .raw 24 .secretFalse false) false).st ≠ .real .scrap) ∧
    refConfig.WellFormed ∧
    (∀ n, n = 0 ∨ n = 19 ∨ n = 21 →
      ({ infoOf .raw 24 .secretFalse false with stateEnc := List.replicate n 0#16 } : OtpInfo).stateEnc.length ≠ refConfig.lcStateWords) ∧
    (∀ n, n = 0 ∨ n = 23 ∨ n = 25 →
      ({ infoOf .raw 24 .secretFalse false with cntEnc := List.replicate n 0#16 } : OtpInfo).cntEnc.length ≠ refConfig.lcCntWords) := by
  refine ⟨by decide, by decide, by decide, by decide, by decide, refConfig_wellFormed, ?_, ?_⟩ <;>
    (rintro n (rfl | rfl | rfl) <;> decide)

theorem witness_InitLoadsTheTokensUnchanged : fresh.fsm = .reset := rfl

theorem witness_LoaderDecodesByWholeStringEquality :
    refConfig.WellFormed ∧ decodeState refConfig (refConfig.lcStateTable .scrap) = .real .scrap ∧
    (∀ l, List.replicate 20 7#16 ≠ refConfig.lcStateTable l) ∧ (∀ k, List.replicate 24 7#16 ≠ refConfig.lcCntTable k) :=
  ⟨refConfig_wellFormed, by decide, fun l => by cases l <;> decide, by decide⟩

theorem witness_LoaderChecksAreIndependentBits : refConfig.WellFormed := refConfig_wellFormed

theorem witness_EscalationFollowsItsRule :
    ∃ (s t : State) (i : Instr), s.fsm = .escalate ∧ i ≠ .reset ∧ exec i s = .next t :=
  ⟨{ idle with fsm := .escalate }, _, .claim .sw 0, rfl, by decide, rfl⟩

theorem witness_TerminalStatesAreLeftOnlyByReset :
    (∀ f, f.terminal = true → ∃ t, exec (.claim .sw 0) { idle with fsm := f } = .next t ∧ claimReq (.claim .sw 0) = some .sw ∧
      idle.claimRegwen = true ∧ idle.owner = none) ∧
    (∀ f, f.terminal = true → ∃ t, exec (.start .sw 0) { owned with fsm := f } = .next t ∧ commandReq (.start .sw 0) = some .sw) ∧
    (∃ t, exec (.release .sw 0) { owned with fsm := .scrap } = .next t ∧ releaseReq (.release .sw 0) = some .sw) ∧
    FsmState.terminal .scrap = true ∧ FsmState.terminal .escalate = true ∧ FsmState.terminal .invalid = true :=
  ⟨fun f hf => by cases f <;> first | (cases hf; done) | exact ⟨_, rfl, rfl, rfl, rfl⟩,
    fun f hf => by cases f <;> first | (cases hf; done) | exact ⟨_, rfl, rfl⟩, ⟨_, rfl, rfl⟩, rfl, rfl, rfl⟩

theorem witness_OperationalErrorWritesOneBitAndTheFsm :
    (∃ t, exec (.start .sw 0) (starting 24 true 0#32) = .next t ∧
      (starting 24 true 0#32).status ≠ (starting 24 true 0#32).status.withError .transitionCount ∧
      t.status = t.status.withError .transitionCount) ∧
    (∃ t, exec (.otpAck true) { flight .cntProg .raw 0x02108420#32 .hIdle with otpPending := true } = .next t ∧
      t.status = t.status.withError .transition ∧ owned.status ≠ owned.status.withError .transition) ∧
    (∃ t, exec (.start .sw 0) (asking token) = .next t ∧ t.status = t.status.withError .token ∧
      (asking token).status ≠ (asking token).status.withError .token) ∧
    (∃ t, exec (.start .sw 0) (starting 0 false 0#32) = .next t ∧ t.status = t.status.withError .otp ∧
      (starting 0 false 0#32).status ≠ (starting 0 false 0#32).status.withError .otp) :=
  ⟨⟨_, rfl, by decide, by decide⟩, ⟨_, rfl, by decide, by decide⟩, ⟨_, rfl, by decide, by decide⟩, ⟨_, rfl, rfl, by decide⟩⟩

/-- A corrupted secret-valid flag fails check 3 on every device. -/
theorem corrupt_err (l : LcState) (k : Fin 25) :
    (loadInitialState device (deviceInfo l k .secretCorrupt) false).err ≠ 0#6 := by
  intro h
  have h3 := (loadInitialState_err device (deviceInfo l k .secretCorrupt) false).2.2.2.1
  rw [h] at h3
  exact Bool.noConfusion (show false = true from h3)

theorem witness_ErrorBitsHaveOnlyTheirListedCauses :
    (∃ t, exec (.start .sw 0) (starting 24 true 0#32) = .next t ∧ t.status.transitionCountError = true) ∧
    (∃ t, exec (.otpAck true) { flight .cntProg .raw 0x02108420#32 .hIdle with otpPending := true } = .next t ∧
      t.status.transitionError = true) ∧
    (∃ t, exec (.start .sw 0) (asking token) = .next t ∧ t.status.tokenError = true) ∧
    (∃ t, exec (.start .sw 0) (starting 0 false 0#32) = .next t ∧ t.status.otpError = true) ∧
    (∃ t, exec (.start .sw 0) (asking hashed) = .next t ∧ t.status.transitionSuccessful = true) ∧
    (∃ t, exec (.init (deviceInfo .prod 9 .secretCorrupt) false) fresh = .next t ∧ t.status.stateError = true) ∧
    owned.status = { Status.zero with initialized := true } ∧ fresh.status = Status.zero := by
  refine ⟨⟨_, rfl, by decide⟩, ⟨_, rfl, by decide⟩, ⟨_, rfl, by decide⟩, ⟨_, rfl, rfl⟩, ⟨_, rfl, by decide⟩, ⟨_, rfl, ?_⟩, rfl, rfl⟩
  show (false || ((loadInitialState device (deviceInfo .prod 9 .secretCorrupt) false).err != 0#6)) = true
  simpa using corrupt_err .prod 9

theorem witness_StickyBitsStayUntilReset :
    ∃ t, exec (.claim .sw 0) { idle with claimRegwen := false, clkBypReq := true, volUnlock := true } = .next t ∧
      Instr.claim .sw 0 ≠ .reset :=
  ⟨_, rfl, by decide⟩

theorem witness_FsmMovesOnlyAlongItsGraph : ∃ t, exec (.start .sw 0) (starting 0 true 0#32) = .next t ∧ t.fsm = .cntProg :=
  ⟨_, rfl, rfl⟩

theorem witness_TransitionsInFlightAreNotCancelled :
    (∃ t, exec (.otpAck true) { allowed .transProg .hIdle with otpPending := true } = .next t ∧ t.fsm ≠ .transProg) ∧
    (∃ t, exec (.otpAck false) { allowed .cntProg .hIdle with otpPending := true } = .next t ∧ t.fsm ≠ .cntProg) ∧
    (∃ t, exec .escalate (allowed .tokenHash .hFirstSent) = .next t ∧ t.fsm ≠ .tokenHash) ∧
    (∃ t, exec (.release .sw 0) (allowed .tokenHash .hFirstSent) = .next t ∧ (stimulusReq (.release .sw 0)).isSome = true) :=
  ⟨⟨_, rfl, by decide⟩, ⟨_, rfl, by decide⟩, ⟨_, rfl, by decide⟩, ⟨_, rfl, by decide⟩⟩

/-- A state of the device that meets the invariant: SW's transition (RAW, TEST_UNLOCKED0) at a given place. -/
def onDevice (f : FsmState) (h : HashState) (p : Bool) : State :=
  { State.reset with
    fsm := f, owner := some .sw, lcCnt := .count 1, status := { Status.zero with initialized := true }
    slotSw := { Slot.zero with target := 0x02108421#32 }, hashState := h, otpPending := p }

theorem onDevice_inv {f : FsmState} {h : HashState} {p : Bool}
    (ht : f.transient = false) (hr : f ≠ .reset) (hi : f ≠ .invalid) (hs : f ≠ .scrap)
    (h1 : p = true → f = .cntProg ∨ f = .transProg ∨ f = .escalate) (h2 : f = .cntProg ∨ f = .transProg → p = true)
    (h3 : h ≠ .hIdle → f = .tokenHash ∨ f = .escalate) (h4 : f = .tokenHash → h ≠ .hIdle) : Inv (onDevice f h p) where
  not_transient := ht
  pending_place := h1
  pending_wait := h2
  hash_place := h3
  hash_wait := fun hf => ⟨h4 hf, rfl⟩
  live_valid := fun _ => ⟨rfl, rfl, rfl, (by decide : IdState.blank ≠ .idInvalid)⟩
  pair_allowed := fun _ => by
    show requiredTokenFor device.transMatrix (.real .raw) (decodeTarget 0x02108421#32) ≠ .invalid
    rw [decode_testUnlocked0]
    show device.transMatrix .raw .testUnlocked0 ≠ .invalid
    rw [device_wellFormed.matrix_raw_unlock]
    decide
  target_high := fun req => by
    cases req
    · exact (by decide : (0x02108421#32).extractLsb' 30 2 = 0#2)
    · exact (by decide : (0#32).extractLsb' 30 2 = 0#2)
  initialized := .inl rfl
  reset_clear := fun hf => absurd hf hr
  state_error := ⟨fun h => Bool.noConfusion (show false = true from h), fun h => absurd rfl h⟩
  invalid_checked := fun hf => absurd hf hi
  scrap_held := fun hf => absurd hf hs
  tokens_fixed := ⟨rfl, rfl⟩

theorem onDevice_idle : Inv (onDevice .idle .hIdle false) :=
  onDevice_inv rfl (by decide) (by decide) (by decide) (by decide) (by decide) (by decide) (by decide)

theorem onDevice_cntProg : Inv (onDevice .cntProg .hIdle true) :=
  onDevice_inv rfl (by decide) (by decide) (by decide) (by decide) (by decide) (by decide) (by decide)

theorem onDevice_tokenHash_first : Inv (onDevice .tokenHash .hFirstSent false) :=
  onDevice_inv rfl (by decide) (by decide) (by decide) (by decide) (by decide) (by decide) (by decide)

theorem onDevice_tokenHash_second : Inv (onDevice .tokenHash .hSecondSent false) :=
  onDevice_inv rfl (by decide) (by decide) (by decide) (by decide) (by decide) (by decide) (by decide)

theorem onDevice_transProg : Inv (onDevice .transProg .hIdle true) :=
  onDevice_inv rfl (by decide) (by decide) (by decide) (by decide) (by decide) (by decide) (by decide)

theorem witness_LcStateChangesOnlyToAllowedStates :
    ∃ t, Inv (onDevice .transProg .hIdle true) ∧ exec (.otpAck true) (onDevice .transProg .hIdle true) = .next t ∧
      t.lcState ≠ (onDevice .transProg .hIdle true).lcState :=
  ⟨_, onDevice_transProg, rfl, by show LcStateVal.real .testUnlocked0 ≠ .real .raw; decide⟩

/-- The five stimuli of a transition, the digest given as two shares. -/
def fiveStimuli (hi : BitVec 31) (a b c d : Token) : List Input :=
  [⟨encode (.start .sw hi), true⟩, ⟨encode (.otpAck true), false⟩, ⟨encode (.hashRsp a b false), false⟩,
    ⟨encode (.hashRsp c d true), true⟩, ⟨encode (.otpAck true), false⟩]

theorem witness_CorrectTokenCommitsTheTransition :
    ∃ (s : State) (e : TokenEntry) (c d : Token),
      s.inputs = fiveStimuli 0 0 0 c d ∧ s.fsm = .idle ∧ s.owner = some .sw ∧ s.hashState = .hIdle ∧ s.lcState = .real .raw ∧
      s.lcCnt = .count 23 ∧ (23 : Fin 25).val < 24 ∧ s.ctrl.volatileRawUnlock = false ∧
      decodeTarget (s.slot .sw).target = some .testUnlocked0 ∧
      s.tokens.entry (device.transMatrix .raw .testUnlocked0) = some e ∧ e.valid = true ∧ c ^^^ d = e.hashed :=
  ⟨{ starting 23 true 0x02108421#32 with inputs := fiveStimuli 0 0 0 0x00112233445566778899AABBCCDDEEFF#128 0#128 },
    TokenEntry.ofRawUnlock refConfig, 0x00112233445566778899AABBCCDDEEFF#128, 0#128, rfl, rfl, rfl, rfl, rfl, rfl, by decide, rfl, rfl,
    by rw [device_wellFormed.matrix_raw_unlock]; rfl, rfl, by decide⟩

theorem witness_TokenStoreLookupsFollowTheirRules :
    matchToken refTokens (~~~0#128) .zero = true ∧ matchToken refTokens 0#128 .rma = false ∧
    TokenKind.rma ≠ .invalid := by
  and_intros <;> decide

theorem witness_LinesDependOnlyOnTheThreeInputs :
    (∃ s t : State, t ≠ s ∧ t.fsm = s.fsm ∧ t.lcState = s.lcState ∧ t.idState = s.idState) ∧
    (∃ s t : State, s.fsm = .reset ∧ t.fsm = .reset ∧ t.lcState ≠ s.lcState) ∧ (∃ s : State, s.fsm.terminal = true) :=
  ⟨⟨idle, owned, by decide, rfl, rfl, rfl⟩, ⟨fresh, { fresh with lcState := .real .dev }, rfl, rfl, by decide⟩, ⟨dirty, rfl⟩⟩

theorem witness_EveryStepKeepsInv :
    (∃ t, Inv (onDevice .idle .hIdle false) ∧ step (onDevice .idle .hIdle false) = .next t) ∧
    (∃ s t : State, Inv s ∧ s.inputs = [⟨.bus .word 0x11400000001#42, true⟩] ∧ step s = .next t ∧ t.fsm = .cntProg) := by
  refine ⟨⟨_, onDevice_idle, rfl⟩,
    { onDevice .idle .hIdle false with inputs := [⟨.bus .word 0x11400000001#42, true⟩] }, _, ?_, rfl, rfl, rfl⟩
  have h := onDevice_idle
  exact ⟨h.not_transient, h.pending_place, h.pending_wait, h.hash_place, h.hash_wait, h.live_valid, h.pair_allowed,
    h.target_high, h.initialized, h.reset_clear, h.state_error, h.invalid_checked, h.scrap_held, h.tokens_fixed⟩

theorem witness_StepsFromInvariantStatesNeverFault : Inv (onDevice .cntProg .hIdle true) := onDevice_cntProg

theorem witness_ContractStimuliComplete :
    (Inv (onDevice .cntProg .hIdle true) ∧ contractAllows (onDevice .cntProg .hIdle true) (.otpAck false) = true) ∧
    (Inv (onDevice .tokenHash .hFirstSent false) ∧
      contractAllows (onDevice .tokenHash .hFirstSent false) (.hashRsp 0 0 false) = true) ∧
    (Inv (onDevice .tokenHash .hSecondSent false) ∧
      contractAllows (onDevice .tokenHash .hSecondSent false) (.hashRsp 0 0 true) = true) ∧
    (Inv (onDevice .idle .hIdle false) ∧ contractAllows (onDevice .idle .hIdle false) (.start .sw 0) = true) :=
  ⟨⟨onDevice_cntProg, rfl⟩, ⟨onDevice_tokenHash_first, rfl⟩, ⟨onDevice_tokenHash_second, rfl⟩, ⟨onDevice_idle, rfl⟩⟩

end Sys2Proof.Tests
end

section
/-! The owner (R15) and the count (R13): what each of the three reactions that run through the FSM does to the two elements, then what any instruction does. -/

namespace Sys2Proof.Machine

/-! ### The owner -/

theorem start_owner {req : Requester} {s t : State} (hg : s.transRegwen req = true)
    (h : start device req s = .next t) : t.owner = s.owner := by
  cases start_end hg h <;> subst t <;> rfl

theorem otpAck_owner {ok : Bool} {s t : State} (h : otpAck device ok s = .next t) : t.owner = s.owner := by
  cases otpAck_end h <;> subst t <;> rfl

theorem hashRsp_owner {a b : Token} {d : Bool} {s t : State} (h : hashRsp device a b d s = .next t) :
    t.owner = s.owner := by
  cases hashRsp_end h <;> subst t <;> rfl

theorem initReaction_owner (c : Config) (info : OtpInfo) (fr : Bool) (s : State) :
    (initReaction c info fr s).owner = s.owner := by
  rcases initReaction_cases c info fr s with ⟨_, h⟩ | ⟨_, h⟩ <;> rw [h]

/-! ### The count -/

/-- R141, R144: a start leaves the count alone on the volatile path and when it is full, and spends one attempt otherwise. -/
theorem start_lcCnt {req : Requester} {s t : State} (hg : s.transRegwen req = true)
    (h : start device req s = .next t) :
    (t.lcCnt = s.lcCnt ∧ (volatileCond (decodeTarget (s.slot req).target) s = true ∨ s.lcCnt = .count 24)) ∨
    (∃ n, s.lcCnt = .count n ∧ n.val < 24 ∧ t.lcCnt = .count (nextCount (decodeTarget (s.slot req).target) n)) := by
  cases start_end hg h with
  | unlocked hv _ ht => subst ht; exact .inl ⟨rfl, .inl hv⟩
  | mismatch hv _ ht => subst ht; exact .inl ⟨rfl, .inl hv⟩
  | full _ hc ht => subst ht; exact .inl ⟨rfl, .inr hc⟩
  | waiting n _ _ hc hn _ _ ht => subst ht; exact .inr ⟨n, hc, hn, rfl⟩
  | busy n _ _ hc hn _ _ ht => subst ht; exact .inr ⟨n, hc, hn, rfl⟩

theorem otpAck_lcCnt {ok : Bool} {s t : State} (h : otpAck device ok s = .next t) : t.lcCnt = s.lcCnt := by
  cases otpAck_end h <;> subst t <;> rfl

theorem hashRsp_lcCnt {a b : Token} {d : Bool} {s t : State} (h : hashRsp device a b d s = .next t) :
    t.lcCnt = s.lcCnt := by
  cases hashRsp_end h <;> subst t <;> rfl

/-- A start command is `start(req)`, whichever constructor names its word (R189, R63). -/
theorem exec_of_commandReq {i : Instr} {req : Requester} (hi : commandReq i = some req) (s : State) :
    exec i s = start device req s := by
  unfold commandReq at hi
  split at hi
  case h_1 => cases hi; rfl
  case h_2 r w =>
    split at hi
    next hw => cases hi; exact if_pos hw
    next => cases hi
  case h_3 => cases hi

/-- R13: everything an instruction other than RESET can do to the count. -/
theorem exec_lcCnt_cases {i : Instr} {s t : State} (h : exec i s = .next t) (hi : i ≠ .reset) :
    t.lcCnt = s.lcCnt ∨
    (s.fsm = .reset ∧ ∃ info fr, i = .init info fr) ∨
    (∃ req n, commandReq i = some req ∧ s.owner = some req ∧ s.fsm = .idle ∧ s.lcCnt = .count n ∧ n.val < 24 ∧
      t.lcCnt = .count (nextCount (decodeTarget (s.slot req).target) n)) := by
  cases exec_effect h with
  | quiet _ _ _ ht => subst ht; exact .inl rfl
  | claimed _ _ _ _ ht => subst ht; exact .inl (rearm_lcCnt _)
  | released _ _ _ _ ht => subst ht; exact .inl rfl
  | locked _ _ _ ht => subst ht; exact .inl rfl
  | control _ _ _ _ ht => subst ht; exact .inl rfl
  | slotWritten req v _ _ _ ht => subst ht; exact .inl (setSlot_lcCnt s req v)
  | started req hreq hg ht =>
    rcases start_lcCnt hg ht with ⟨heq, _⟩ | ⟨n, hc, hn, hnew⟩
    · exact .inl heq
    · obtain ⟨ho, hf⟩ := (transRegwen_iff s req).1 hg
      exact .inr (.inr ⟨req, n, hreq, ho, hf, hc, hn, hnew⟩)
  | acknowledged _ _ ht => exact .inl (otpAck_lcCnt ht)
  | responded _ _ _ _ ht => exact .inl (hashRsp_lcCnt ht)
  | initialized info fr hinit ht =>
    rcases initReaction_cases device info fr s with ⟨_, heq⟩ | ⟨hf, _⟩
    · exact .inl (by rw [ht, heq])
    · exact .inr (.inl ⟨hf, info, fr, hinit⟩)
  | wasReset hreset _ => exact absurd hreset hi
  | escalated _ ht => subst ht; exact .inl rfl

/-- R119: the count is invalid exactly if the string is no table entry. -/
theorem decodeCnt_eq_cntInvalid_iff (c : Config) (e : EncString) :
    decodeCnt c e = .cntInvalid ↔ ∀ k : Fin 25, e ≠ c.lcCntTable k := by
  unfold decodeCnt
  split
  next k hk =>
    have he : e = c.lcCntTable k := by simpa using List.find?_some hk
    exact ⟨nofun, fun h => absurd he (h k)⟩
  next hnone => simpa using hnone

theorem initReaction_lcCnt {c : Config} {info : OtpInfo} {fr : Bool} {s : State} (hf : s.fsm = .reset) :
    (initReaction c info fr s).lcCnt = decodeCnt c info.cntEnc := by
  rcases initReaction_cases c info fr s with ⟨hne, _⟩ | ⟨_, h⟩
  · exact absurd hf hne
  · rw [h]; rfl

theorem lcCnt_le_refl (c : LcCntVal) : c.le c = true := by
  cases c <;> simp [LcCntVal.le]

/-- Below 24 the increment does not wrap around, and 24 is the largest count (R159). -/
theorem le_nextCount (tgt : Option LcState) {n : Fin 25} (hn : n.val < 24) : n ≤ nextCount tgt n := by
  have h24 : (24 : Fin 25).val = 24 := rfl
  have hval : (n + 1).val = n.val + 1 := Fin.val_add_one_of_lt (n := 24) (i := n) (Fin.lt_def.2 (by simpa using hn))
  rw [Fin.le_def]
  unfold nextCount
  split <;> omega

end Sys2Proof.Machine

namespace Sys2Proof.Proofs

open Machine

/-- Settles O23: of the twelve effects an instruction can have, only a claim, a release and RESET write the owner. -/
theorem ownerChangesOnlyByClaimReleaseAndReset : Obligations.OwnerChangesOnlyByClaimReleaseAndReset := by
  intro i s t h hne
  cases exec_effect h with
  | quiet _ _ _ ht => subst ht; exact absurd rfl hne
  | claimed req hreq _ ho ht => exact .inr (.inl ⟨req, hreq, ho, by rw [ht, rearm_owner]⟩)
  | released req hreq _ ho ht => exact .inr (.inr ⟨req, hreq, ho, by rw [ht]⟩)
  | locked _ _ _ ht => subst ht; exact absurd rfl hne
  | control _ _ _ _ ht => subst ht; exact absurd rfl hne
  | slotWritten req v _ _ _ ht => subst ht; exact absurd (setSlot_owner s req v) hne
  | started _ _ hg ht => exact absurd (start_owner hg ht) hne
  | acknowledged _ _ ht => exact absurd (otpAck_owner ht) hne
  | responded _ _ _ _ ht => exact absurd (hashRsp_owner ht) hne
  | initialized info fr _ ht => subst ht; exact absurd (initReaction_owner device info fr s) hne
  | wasReset hreset ht => subst ht; exact .inl ⟨hreset, rfl⟩
  | escalated _ ht => subst ht; exact absurd rfl hne

/-- Settles O28: the loader's count is what the string decodes to (R119), and of the instructions outside RESET only a start that reaches
CNT_INCR writes it (R144), with a value no smaller. -/
theorem countIsWrittenOnlyByLoaderAndIncrement : Obligations.CountIsWrittenOnlyByLoaderAndIncrement := by
  refine ⟨fun info fr s hf => ?_, fun i s t h hi => ⟨fun hne => ?_, ?_, fun hf => ?_⟩⟩
  · rw [initReaction_lcCnt hf]
    exact decodeCnt_eq_cntInvalid_iff device info.cntEnc
  · exact (exec_lcCnt_cases h hi).resolve_left hne
  · intro req n hreq ho hf hv hc hn
    rw [exec_of_commandReq hreq] at h
    rcases start_lcCnt ((transRegwen_iff s req).2 ⟨ho, hf⟩) h with ⟨_, hv' | hfull⟩ | ⟨m, hm, _, hnew⟩
    · rw [hv] at hv'
      cases hv'
    · cases hc.symm.trans hfull
      exact absurd hn (by decide)
    · cases hc.symm.trans hm
      exact hnew
  · rcases exec_lcCnt_cases h hi with heq | ⟨hreset, _⟩ | ⟨req, n, _, _, _, hc, hn, hnew⟩
    · rw [heq]
      exact lcCnt_le_refl _
    · exact absurd hreset hf
    · rw [hc, hnew]
      exact decide_eq_true (le_nextCount _ hn)

end Sys2Proof.Proofs
end

section
/-! The Token Store's lookups (R94, R97): a 128-bit value is its two halves, and INVALID is the one kind without an entry. -/

namespace Sys2Proof.Machine

/-- R71: a value is put together again from its halves. -/
theorem joinHalves_half (t : Token) : joinHalves (half t 1) (half t 0) = t :=
  (BitVec.extractLsb'_append_extractLsb'_eq_extractLsb' rfl).trans BitVec.extractLsb'_eq_self

/-- R97: the comparison of both halves is that of all 128 bits. -/
theorem eq_iff_halves_eq (d t : Token) : d = t ↔ half d 0 = half t 0 ∧ half d 1 = half t 1 := by
  refine ⟨fun h => h ▸ ⟨rfl, rfl⟩, fun ⟨h0, h1⟩ => ?_⟩
  calc d = joinHalves (half d 1) (half d 0) := (joinHalves_half d).symm
    _ = joinHalves (half t 1) (half t 0) := by rw [h0, h1]
    _ = t := joinHalves_half t

@[simp] theorem entry_invalid (ts : TokenStore) : ts.entry .invalid = none := rfl

/-- R90: every kind but INVALID has an entry. -/
theorem exists_entry_iff (ts : TokenStore) (k : TokenKind) : (∃ e, ts.entry k = some e) ↔ k ≠ .invalid := by
  cases k with
  | invalid => simp
  | zero | rawUnlock | testUnlock | testExit | rma => exact ⟨fun _ => nofun, fun _ => ⟨_, rfl⟩⟩

/-- R97 in whole values: `matchToken_iff` with the two halves put together. -/
theorem matchToken_iff_hashed_eq (ts : TokenStore) (d : Token) (k : TokenKind) :
    matchToken ts d k = true ↔ ∃ e, ts.entry k = some e ∧ e.valid = true ∧ d = e.hashed := by
  simp only [matchToken_iff, eq_iff_halves_eq]

end Sys2Proof.Machine

namespace Sys2Proof.Proofs

open Machine

/-- Settles O50: the lookup of the matrix is by definition; a match is the equality of whole values, and the entry it finds shows that the
kind is not INVALID. -/
theorem tokenStoreLookupsFollowTheirRules : Obligations.TokenStoreLookupsFollowTheirRules := by
  refine ⟨fun m f t tgt => ⟨rfl, rfl, rfl⟩, fun ts d k => ⟨?_, fun hk => hk ▸ entry_invalid ts, (exists_entry_iff ts k).2⟩⟩
  rw [matchToken_iff_hashed_eq]
  exact ⟨fun ⟨e, he, hmatch⟩ => ⟨(exists_entry_iff ts k).1 ⟨e, he⟩, e, he, hmatch⟩, fun ⟨_, hentry⟩ => hentry⟩

end Sys2Proof.Proofs
end

section
/-! The two responses of one hash operation (R106, R107), an equation for each. -/

namespace Sys2Proof.Machine

theorem exec_hashRsp (a b : Token) (d : Bool) (s : State) : exec (.hashRsp a b d) s = hashRsp device a b d s := rfl

/-- R106: the intermediate response. -/
theorem hashRsp_intermediate (c : Config) (a b : Token) {s : State} (hh : s.hashState = .hFirstSent) :
    hashRsp c a b false s = .next (requestSecondHalf c s) := by
  simp [hashRsp, hh]

/-- R107: the final response; only TOKEN_HASH waits for the digest. -/
theorem hashRsp_final (c : Config) (a b : Token) {s : State} (hh : s.hashState = .hSecondSent) :
    hashRsp c a b true s =
      if s.fsm = .tokenHash then resumeFromHash c (storeDigest a b s) else .next (storeDigest a b s) := by
  unfold hashRsp
  rw [hh]
  rfl

end Sys2Proof.Machine

namespace Sys2Proof.Proofs

open Machine

/-- Settles O32: the digest is the one the final response recombines, and R107's exclusive-or of the halves is that of every bit. -/
theorem hashResponsesFollowTheirRules : Obligations.HashResponsesFollowTheirRules := by
  refine fun a b s => ⟨fun hfirst => ?intermediate, fun hsecond => ⟨recombine a b, fun j _ => ?bits, fun hf => ?stored, fun hf => ?resumed⟩⟩
  case intermediate => exact hashRsp_intermediate device a b hfirst
  case bits => rw [recombine_eq_xor, BitVec.getLsbD_xor]
  case stored =>
    rw [exec_hashRsp, hashRsp_final device a b hsecond, if_neg hf]
    rfl
  case resumed =>
    rw [exec_hashRsp, hashRsp_final device a b hsecond, if_pos hf]
    rfl

end Sys2Proof.Proofs
end

section
/-! The OTP Info Loader: what a string decodes to (R118, R119), and the Token Store after INIT (R128). -/

namespace Sys2Proof.Machine

/-! ### Decoding -/

/-- R118: the search answers with a state only on equality of the whole string. -/
theorem eq_of_decodeState_eq_real {c : Config} {e : EncString} {l : LcState} (h : decodeState c e = .real l) :
    e = c.lcStateTable l := by
  unfold decodeState at h
  split at h
  next l' hl' =>
    cases h
    simpa using List.find?_some hl'
  next => cases h

/-- R119: the search answers with a count only on equality of the whole string. -/
theorem eq_of_decodeCnt_eq_count {c : Config} {e : EncString} {k : Fin 25} (h : decodeCnt c e = .count k) :
    e = c.lcCntTable k := by
  unfold decodeCnt at h
  split at h
  next k' hk' =>
    cases h
    simpa using List.find?_some hk'
  next => cases h

theorem decodeState_eq_real_iff {c : Config} (hc : c.WellFormed) (e : EncString) (l : LcState) :
    decodeState c e = .real l ↔ e = c.lcStateTable l :=
  ⟨eq_of_decodeState_eq_real, fun h => h ▸ decodeState_table hc l⟩

theorem decodeCnt_eq_count_iff {c : Config} (hc : c.WellFormed) (e : EncString) (k : Fin 25) :
    decodeCnt c e = .count k ↔ e = c.lcCntTable k :=
  ⟨eq_of_decodeCnt_eq_count, fun h => h ▸ decodeCnt_table hc k⟩

/-- R118: the state is invalid exactly if the string is no table entry. -/
theorem decodeState_eq_lcsInvalid_iff {c : Config} (hc : c.WellFormed) (e : EncString) :
    decodeState c e = .lcsInvalid ↔ ∀ l, e ≠ c.lcStateTable l := by
  simp only [ne_eq, ← decodeState_eq_real_iff hc]
  cases decodeState c e with
  | real l => exact ⟨nofun, fun h => absurd rfl (h l)⟩
  | lcsInvalid => exact ⟨fun _ _ => nofun, fun _ => rfl⟩

/-! ### The tokens -/

theorem exec_init (info : OtpInfo) (fr : Bool) (s : State) :
    exec (.init info fr) s = .next (initReaction device info fr s) := rfl

/-- R128: whatever the checks find, the three OTP tokens are `info`'s and the two others stay. -/
theorem initReaction_tokens (c : Config) (info : OtpInfo) (fr : Bool) {s : State} (hf : s.fsm = .reset) :
    (initReaction c info fr s).tokens =
      { s.tokens with testUnlock := info.testUnlock, testExit := info.testExit, rma := info.rma } := by
  rcases initReaction_cases c info fr s with ⟨hne, _⟩ | ⟨_, h⟩
  · exact absurd hf hne
  · rw [h]

end Sys2Proof.Machine

namespace Sys2Proof.Proofs

open Machine

/-- Settles O37: a string is matched as a whole, and no two entries are equal, so the first match is the only one. -/
theorem loaderDecodesByWholeStringEquality : Obligations.LoaderDecodesByWholeStringEquality := fun c e hc =>
  ⟨decodeState_eq_real_iff hc e, decodeState_eq_lcsInvalid_iff hc e,
    decodeCnt_eq_count_iff hc e, decodeCnt_eq_cntInvalid_iff c e⟩

/-- Settles O36: in RESET the Token Store after INIT is the old one with `info`'s three tokens. -/
theorem initLoadsTheTokensUnchanged : Obligations.InitLoadsTheTokensUnchanged := by
  intro info fr s hf
  refine ⟨_, exec_init info fr s, ?_⟩
  rw [initReaction_tokens device info fr hf]
  exact ⟨rfl, rfl, rfl, rfl, rfl⟩

end Sys2Proof.Proofs
end

section
/-! The mutex operation `claim` (R137), an equation for each owner. -/

namespace Sys2Proof.Machine

/-- R139: re-arming as one update. -/
theorem rearm_eq (s : State) : rearm s = { s with fsm := if s.fsm = .postTrans then .idle else s.fsm } := by
  rcases rearm_cases s with ⟨hf, h⟩ | ⟨hf, h⟩
  · rw [h, if_pos hf]
  · rw [h, if_neg hf]

theorem claim_of_free (req : Requester) {s : State} (ho : s.owner = none) :
    claim req s = (true, rearm { s with owner := some req }) := by
  unfold claim
  rw [ho]

/-- An owned mutex is not touched; the answer says whether it is the claimer's. -/
theorem claim_of_owned (req : Requester) {r : Requester} {s : State} (ho : s.owner = some r) :
    claim req s = (r == req, s) := by
  unfold claim
  rw [ho]

theorem other_beq_self (req : Requester) : (req.other == req) = false := by
  cases req <;> rfl

end Sys2Proof.Machine

namespace Sys2Proof.Proofs

open Machine

/-- Settles O17: the three owner cases of `claim`; re-arming looks at `fsm` only, which taking the mutex leaves as it was. -/
theorem claimOperationFollowsItsRule : Obligations.ClaimOperationFollowsItsRule := by
  refine fun req s => ⟨fun hfree => ?free, fun hown => ?own, fun hother => ?other⟩
  case free => rw [claim_of_free req hfree, rearm_eq]
  case own => rw [claim_of_owned req hown, beq_self_eq_true]
  case other => rw [claim_of_owned req hother, other_beq_self]

end Sys2Proof.Proofs
end

section
/-! The two outcomes of the guard of `start` (R140), and where an accepted start ends. -/

namespace Sys2Proof.Machine

/-- R140: without the mutex, or outside IDLE, a start is a guest error. -/
theorem start_of_locked (c : Config) {req : Requester} {s : State} (hg : ¬(s.owner = some req ∧ s.fsm = .idle)) :
    start c req s = .next (guestError s) := by
  unfold start
  exact if_neg (mt (transRegwen_iff s req).1 hg)

theorem start_of_regwen (c : Config) {req : Requester} {s : State} (hg : s.transRegwen req = true) :
    start c req s =
      if volatileCond (decodeTarget (s.slot req).target) { s with xactReq := req } then
        .next (volatileUnlock req { s with xactReq := req })
      else clkMux c (decodeTarget (s.slot req).target) { s with xactReq := req, fsm := .clkMux } := by
  unfold start
  simp only [if_pos hg, tgt_of_xactReq]

/-- R141, R144, R145: the states in which the reaction of an accepted start can leave the FSM. -/
theorem start_fsm {req : Requester} {s t : State} (hg : s.transRegwen req = true)
    (h : start device req s = .next t) : t.fsm = .idle ∨ t.fsm = .cntProg ∨ t.fsm = .postTrans := by
  cases start_end hg h with
  | unlocked _ _ ht => subst ht; exact .inl ((transRegwen_iff s req).1 hg).2
  | mismatch _ _ ht => subst ht; exact .inr (.inr rfl)
  | full _ _ ht => subst ht; exact .inr (.inr rfl)
  | waiting _ _ _ _ _ _ _ ht => subst ht; exact .inr (.inl rfl)
  | busy _ _ _ _ _ _ _ ht => subst ht; exact .inr (.inr rfl)

end Sys2Proof.Machine

namespace Sys2Proof.Proofs

open Machine

/-- Settles O24: both disjuncts of the refusal falsify the guard of `start`; where an accepted start ends is read off its five ends. -/
theorem startFollowsItsRule : Obligations.StartFollowsItsRule := by
  refine fun req s => ⟨fun hno => ?_, fun ho hf => ?_⟩
  · exact start_of_locked device (not_and_or.2 hno)
  · have hg := (transRegwen_iff s req).2 ⟨ho, hf⟩
    exact ⟨start_of_regwen device hg, fun t => start_fsm hg⟩

end Sys2Proof.Proofs
end

section
/-! The acknowledge of the count with its transition check (R147, R148), and the first hash request (R101). -/

namespace Sys2Proof.Machine

theorem ackCntProg_nack (c : Config) (s : State) : ackCntProg c false s = .next (raiseOp .otp s) := rfl

theorem ackCntProg_ack (c : Config) (s : State) :
    ackCntProg c true s = transCheck c { s with fsm := .transCheck } := rfl

/-- R148: a pair the matrix forbids. -/
theorem transCheck_of_forbidden (c : Config) {s : State}
    (hk : requiredTokenFor c.transMatrix s.lcState s.tgt = .invalid) :
    transCheck c s = .next (raiseOp .transition s) := if_pos hk

/-- R149: an allowed pair. -/
theorem transCheck_of_allowed (c : Config) {s : State}
    (hk : requiredTokenFor c.transMatrix s.lcState s.tgt ≠ .invalid) :
    transCheck c s = requestHash c s.xactReq { s with fsm := .tokenHash } := if_neg hk

theorem requestHash_of_idle (c : Config) (req : Requester) {s : State} (hh : s.hashState = .hIdle) :
    requestHash c req s =
      .next { s.emit (.hashRequest c.kmacAppId (chunk ((s.slot req).half 0)) false) with
        hashReq := req, hashState := .hFirstSent } := by
  unfold requestHash
  rw [hh]

/-- R101: the adapter holds one request at a time. -/
theorem requestHash_of_busy (c : Config) (req : Requester) {s : State} (hh : s.hashState ≠ .hIdle) :
    requestHash c req s = .fault .secondHashRequest := by
  unfold requestHash
  cases hs : s.hashState with
  | hIdle => exact absurd hs hh
  | hFirstSent => rfl
  | hSecondSent => rfl

end Sys2Proof.Machine

namespace Sys2Proof.Proofs

open Machine

/-- Settles O30: entering TRANS_CHECK changes neither operand of the matrix lookup, so the check's two outcomes are those of the state before. -/
theorem countAckAndTransitionCheckFollowTheirRules : Obligations.CountAckAndTransitionCheckFollowTheirRules := by
  refine fun s => ⟨ackCntProg_nack device s, fun hk => ?forbidden, fun hk => ?allowed, fun c req => ⟨?idle, ?busy⟩⟩
  case forbidden => exact (ackCntProg_ack device s).trans (transCheck_of_forbidden device hk)
  case allowed => exact (ackCntProg_ack device s).trans (transCheck_of_allowed device hk)
  case idle => exact requestHash_of_idle c req
  case busy => exact requestHash_of_busy c req

end Sys2Proof.Proofs
end

section
/-! The token check (R150), an equation for each of its three outcomes. -/

namespace Sys2Proof.Machine

/-- The diagnostic of R98 as one update. -/
theorem noteUnset_eq (k : TokenKind) (s : State) :
    noteUnset k s = { s with diag := if s.tokens.usable k then s.diag else s.diag ++ [.unsetTokenKind] } := by
  unfold noteUnset
  cases s.tokens.usable k <;> rfl

theorem resumeFromHash_of_forbidden (c : Config) {s : State}
    (hk : requiredTokenFor c.transMatrix s.lcState s.tgt = .invalid) :
    resumeFromHash c s = .next (raiseOp .transition { s with fsm := .tokenCheck }) := by
  rcases resumeFromHash_cases c s with ⟨_, h⟩ | ⟨hne, _⟩ | ⟨hne, _⟩
  · exact h
  · exact absurd hk hne
  · exact absurd hk hne

theorem resumeFromHash_of_match (c : Config) {s : State} {k : TokenKind}
    (hk : requiredTokenFor c.transMatrix s.lcState s.tgt = k) (hne : k ≠ .invalid)
    (hm : matchToken s.tokens s.digest k = true) :
    resumeFromHash c s = transProg c { s with fsm := .transProg } := by
  subst hk
  rcases resumeFromHash_cases c s with ⟨hinv, _⟩ | ⟨_, _, h⟩ | ⟨_, hm', _⟩
  · exact absurd hinv hne
  · exact h
  · exact absurd (hm.symm.trans hm') nofun

theorem resumeFromHash_of_mismatch (c : Config) {s : State} {k : TokenKind}
    (hk : requiredTokenFor c.transMatrix s.lcState s.tgt = k) (hne : k ≠ .invalid)
    (hm : matchToken s.tokens s.digest k = false) :
    resumeFromHash c s = .next (raiseOp .token (noteUnset k { s with fsm := .tokenCheck })) := by
  subst hk
  rcases resumeFromHash_cases c s with ⟨hinv, _⟩ | ⟨_, hm', _⟩ | ⟨_, _, h⟩
  · exact absurd hinv hne
  · exact absurd (hm.symm.trans hm') nofun
  · exact h

end Sys2Proof.Machine

namespace Sys2Proof.Proofs

open Machine

/-- Settles O33: the three outcomes of the check; TOKEN_CHECK itself is overwritten by the error's POST_TRANS. -/
theorem tokenCheckFollowsItsRule : Obligations.TokenCheckFollowsItsRule := by
  refine fun s k hk => ⟨fun hinv => ?forbidden, fun hne hm => ?mismatch, resumeFromHash_of_match device hk⟩
  case forbidden => exact resumeFromHash_of_forbidden device (hk.trans hinv)
  case mismatch =>
    rw [resumeFromHash_of_mismatch device hk hne hm, noteUnset_eq]
    rfl

end Sys2Proof.Proofs
end

section
/-! The terminal states (R157): which of the effects of an instruction are left in them. -/

namespace Sys2Proof.Machine

/-- A claim under the write-enable, whichever constructor names its word (R185, R63). -/
theorem exec_of_claimReq {i : Instr} {req : Requester} {s : State} (hi : claimReq i = some req)
    (hr : s.claimRegwen = true) : exec i s = .next (claim req s).2 := by
  unfold claimReq at hi
  split at hi
  case h_1 => cases hi; exact congrArg _ (if_pos hr)
  case h_2 r w =>
    split at hi
    next hw => cases hi; exact congrArg _ ((if_pos hr).trans (if_pos hw))
    next => cases hi
  case h_3 => cases hi

/-- A release under the write-enable, whichever constructor names its word (R185, R63). -/
theorem exec_of_releaseReq {i : Instr} {req : Requester} {s : State} (hi : releaseReq i = some req)
    (hr : s.claimRegwen = true) : exec i s = .next (release req s) := by
  unfold releaseReq at hi
  split at hi
  case h_1 => cases hi; exact congrArg _ (if_pos hr)
  case h_2 r w =>
    split at hi
    next => cases hi
    next hw => cases hi; exact congrArg _ ((if_pos hr).trans (if_neg hw))
  case h_3 => cases hi

theorem release_of_owner {req : Requester} {s : State} (ho : s.owner = some req) :
    release req s = { s with owner := none } := if_pos ho

theorem ne_of_terminal {f g : FsmState} (hf : f.terminal = true) (hg : g.terminal = false) : f ≠ g := by
  rintro rfl
  exact Bool.false_ne_true (hg.symm.trans hf)

/-- What is left of `Effect` in a terminal state. -/
inductive TerminalEffect (i : Instr) (s t : State) : Prop where
  /-- Reads, guest errors, defined no-ops, and the completions nobody awaits. -/
  | quiet (v : Option Word) (dg : List Diag) (n : Nat) (ht : t = { s with rdata := v, diag := dg, freeCtr := n })
  /-- The mutex changes hands, with no re-arming (R137, R138). -/
  | ownerWritten (o : Option Requester) (ht : t = { s with owner := o })
  /-- An acknowledge that arrives after an escalation (R158). -/
  | waitEnded (ht : t = { s with otpPending := false })
  /-- The hash operation in flight goes on to its end (R106, R107). -/
  | hashed (h : HashState) (d : Token) (e : List Request) (ht : t = { s with hashState := h, digest := d, emitted := e })
  | escalated (hi : i = .escalate) (ht : t = { s with fsm := .escalate })

section
variable {i : Instr} {s t : State} (hterm : s.fsm.terminal = true)
include hterm

/-- R157: no acknowledge is awaited by the FSM in a terminal state. -/
theorem TerminalEffect.of_otpAck {ok : Bool} (h : otpAck device ok s = .next t) : TerminalEffect i s t := by
  cases otpAck_end h with
  | unawaited _ ht => exact .quiet s.rdata s.diag s.freeCtr ht
  | absorbed _ _ ht => exact .waitEnded ht
  | countNack _ hf _ _ | forbidden _ hf _ _ _ | hashing _ hf _ _ _ _ | stateNack _ hf _ _ | committed _ _ hf _ _ _ =>
    exact absurd hf (ne_of_terminal hterm rfl)

/-- R157: a digest is stored in a terminal state, and nothing resumes with it. -/
theorem TerminalEffect.of_hashRsp {a b : Token} {d : Bool} (h : hashRsp device a b d s = .next t) :
    TerminalEffect i s t := by
  cases hashRsp_end h with
  | unawaited _ ht => exact .quiet s.rdata s.diag s.freeCtr ht
  | secondHalf _ _ ht => exact .hashed _ s.digest _ ht
  | stored _ _ _ ht => exact .hashed _ _ s.emitted ht
  | forbidden _ _ hf _ _ | mismatch _ _ _ _ hf _ _ _ _ _ | waiting _ _ _ _ _ hf _ _ _ _ _ _ _
  | busy _ _ _ _ _ hf _ _ _ _ _ _ _ => exact absurd hf (ne_of_terminal hterm rfl)

theorem rearm_of_terminal : rearm s = s :=
  (rearm_cases s).elim (fun ⟨hf, _⟩ => absurd hf (ne_of_terminal hterm rfl)) And.right

/-- R157: of the twelve effects, those that need IDLE or RESET cannot happen, and a claim re-arms nothing. -/
theorem exec_terminalEffect (h : exec i s = .next t) (hi : i ≠ .reset) : TerminalEffect i s t := by
  have hidle (req : Requester) : s.transRegwen req ≠ true := fun hg =>
    ne_of_terminal hterm rfl ((transRegwen_iff s req).1 hg).2
  cases exec_effect h with
  | quiet v dg n ht => exact .quiet v dg n ht
  | claimed req _ _ _ ht => exact .ownerWritten (some req) (ht.trans (rearm_of_terminal hterm))
  | released _ _ _ _ ht => exact .ownerWritten none ht
  | locked req _ hg _ | control req _ _ hg _ | slotWritten req _ _ hg _ _ | started req _ hg _ =>
    exact absurd hg (hidle req)
  | acknowledged _ _ ht => exact .of_otpAck hterm ht
  | responded _ _ _ _ ht => exact .of_hashRsp hterm ht
  | initialized info fr _ ht =>
    rcases initReaction_cases device info fr s with ⟨_, heq⟩ | ⟨hf, _⟩
    · exact .quiet s.rdata s.diag s.freeCtr (ht.trans heq)
    · exact absurd hf (ne_of_terminal hterm rfl)
  | wasReset hreset _ => exact absurd hreset hi
  | escalated hesc ht => exact .escalated hesc ht

/-- R157: the FSM stays, unless the stimulus is ESCALATE. -/
theorem exec_fsm_of_terminal (h : exec i s = .next t) (hi : i ≠ .reset) :
    t.fsm = if i = .escalate then .escalate else s.fsm := by
  by_cases hesc : i = .escalate
  · subst hesc
    rw [if_pos rfl, ← Host.Outcome.next.inj h]
    rfl
  · rw [if_neg hesc]
    cases exec_terminalEffect hterm h hi with
    | quiet _ _ _ ht | ownerWritten _ ht | waitEnded ht | hashed _ _ _ ht => rw [ht]
    | escalated hi' _ => exact absurd hi' hesc

end

/-- R157: the gated registers and the life-cycle values keep their values. -/
theorem TerminalEffect.frame {i : Instr} {s t : State} (h : TerminalEffect i s t) :
    t.slotSw = s.slotSw ∧ t.slotDbg = s.slotDbg ∧ t.ctrl = s.ctrl ∧ t.claimRegwen = s.claimRegwen ∧
    t.lcState = s.lcState ∧ t.lcCnt = s.lcCnt ∧ t.idState = s.idState ∧ t.tokens = s.tokens ∧ t.status = s.status := by
  cases h with
  | quiet _ _ _ ht | ownerWritten _ ht | waitEnded ht | hashed _ _ _ ht | escalated _ ht =>
    subst ht
    exact ⟨rfl, rfl, rfl, rfl, rfl, rfl, rfl, rfl, rfl⟩

end Sys2Proof.Machine

namespace Sys2Proof.Proofs

open Machine

/-- Settles O42: the effects left in a terminal state give the FSM and the frame; a start fails its guard, and claim and release
write the owner by their own rules. -/
theorem terminalStatesAreLeftOnlyByReset : Obligations.TerminalStatesAreLeftOnlyByReset := by
  intro i s t hterm hreset h
  obtain ⟨hsw, hdbg, hctrl, hregwen, hstate, hcnt, hid, htokens, hstatus⟩ := (exec_terminalEffect hterm h hreset).frame
  refine ⟨exec_fsm_of_terminal hterm h hreset, fun req hcmd => ?start, hsw, hdbg, hctrl, hregwen, hstate, hcnt, hid,
    htokens, hstatus, fun req hclaim hr ho => ?claim, fun req hrelease hr ho => ?release⟩
  case start =>
    have hlocked : ¬(s.owner = some req ∧ s.fsm = .idle) := fun ⟨_, hf⟩ => ne_of_terminal hterm rfl hf
    rw [exec_of_commandReq hcmd, start_of_locked device hlocked] at h
    exact (Host.Outcome.next.inj h).symm
  case claim =>
    rw [exec_of_claimReq hclaim hr, claim_of_free req ho] at h
    rw [← Host.Outcome.next.inj h, rearm_owner]
  case release =>
    rw [exec_of_releaseReq hrelease hr, release_of_owner ho] at h
    rw [← Host.Outcome.next.inj h]

end Sys2Proof.Proofs
end

section
/-! The value of STATUS, bit by bit (R65, R180). -/

namespace Sys2Proof.Machine

/-- The bits of STATUS of R65's table, bit 0 first. -/
def State.statusBits (s : State) : List Bool :=
  [s.status.initialized, s.fsm == .idle, s.status.extClockSwitched, s.status.transitionSuccessful,
    s.status.transitionCountError, s.status.transitionError, s.status.tokenError, false, s.status.otpError,
    s.status.stateError]

/-- R65: what every bit of STATUS shows; those past the table are 0. -/
theorem getLsbD_statusValue (s : State) (n : Nat) : s.statusValue.getLsbD n = s.statusBits.getD n false := by
  by_cases hn : n < 10
  · simp only [State.statusValue, BitVec.getLsbD_setWidth, BitVec.getLsbD_append]
    interval_cases n <;> simp [State.ready, State.statusBits]
  · have hlen : s.statusBits.length ≤ n := Nat.le_of_not_lt hn
    rw [List.getD_eq_default _ _ hlen, State.statusValue, BitVec.getLsbD_setWidth,
      BitVec.getLsbD_of_ge _ n (Nat.le_of_not_lt hn), Bool.and_false]

/-- R180: the same value for both requesters, and nothing but the reply is written. -/
theorem exec_rdStatus (req : Requester) (s : State) :
    exec (.rdStatus req) s = .next { s with rdata := some s.statusValue } := rfl

end Sys2Proof.Machine

namespace Sys2Proof.Proofs

open Machine

/-- Settles O7: the nine bits and the zeros between and above them are read off R65's table. -/
theorem readOfStatusReturnsItsBits : Obligations.ReadOfStatusReturnsItsBits := by
  intro s
  have bit := getLsbD_statusValue s
  refine ⟨s.statusValue, fun req => exec_rdStatus req s, bit 0, bit 1, bit 2, bit 3, bit 4, bit 5, bit 6, bit 8,
    bit 9, ?_⟩
  rintro n (rfl | hn)
  · exact bit 7
  · exact (bit n).trans (List.getD_eq_default _ _ hn)

end Sys2Proof.Proofs
end

section
/-! Writes to the read-only information registers (R205). -/

namespace Sys2Proof.Machine

/-- The guest error of a write as one update (R246). -/
theorem guestError_eq (s : State) : guestError s = { s with diag := s.diag ++ [.guestError] } := rfl

end Sys2Proof.Machine

namespace Sys2Proof.Proofs

open Machine

/-- Settles O14: the meaning of each of the 21 writes is the guest error, which looks neither at the requester nor at the data. -/
theorem writesToInformationRegistersAreIgnored : Obligations.WritesToInformationRegistersAreIgnored := by
  intro req w s
  refine ⟨guestError s, guestError_eq s, ?_⟩
  and_intros <;> rfl

end Sys2Proof.Proofs
end

section
/-! The status bits (R18, R247, R248): everything an instruction can do to them, and the causes of the four operational errors. -/

namespace Sys2Proof.Machine

/-! ### The error bits -/

/-- The status bit of an operational error (R248). -/
def Status.error (st : Status) : OpErr → Bool
  | .transitionCount => st.transitionCountError
  | .transition => st.transitionError
  | .token => st.tokenError
  | .otp => st.otpError

@[simp] theorem withError_error (st : Status) (e e' : OpErr) :
    (st.withError e).error e' = (decide (e = e') || st.error e') := by
  cases e <;> cases e' <;> rfl

@[simp] theorem error_extClockSwitched (st : Status) (b : Bool) (e : OpErr) :
    Status.error { st with extClockSwitched := b } e = st.error e := by
  cases e <;> rfl

@[simp] theorem error_transitionSuccessful (st : Status) (b : Bool) (e : OpErr) :
    Status.error { st with transitionSuccessful := b } e = st.error e := by
  cases e <;> rfl

@[simp] theorem error_loaded (st : Status) (b b' : Bool) (e : OpErr) :
    Status.error { st with initialized := b, stateError := b' } e = st.error e := by
  cases e <;> rfl

@[simp] theorem error_zero (e : OpErr) : Status.zero.error e = false := by
  cases e <;> rfl

/-- Setting a bit changes nothing exactly if it is set. -/
theorem eq_withError_iff (st : Status) (e : OpErr) : st = st.withError e ↔ st.error e = true := by
  constructor
  · intro h
    rw [h]
    simp
  · intro h
    cases e with
    | transitionCount | transition | token | otp =>
      cases st
      cases h
      rfl

/-! ### The causes -/

/-- The causes of the four operational errors (the table of R248), each by the stimulus and the state in which the attempt fails. -/
inductive OpErrCause (i : Instr) (s : State) : OpErr → Prop
  /-- A start with the count at 24 (R144). -/
  | countFull (req : Requester) (hi : commandReq i = some req) (hg : s.transRegwen req = true) (hc : s.lcCnt = .count 24) :
      OpErrCause i s .transitionCount
  /-- The transition check (R148). -/
  | checkForbidden (hi : i = .otpAck true) (hf : s.fsm = .cntProg) (hp : s.otpPending = true)
      (hk : requiredTokenFor device.transMatrix s.lcState s.tgt = .invalid) : OpErrCause i s .transition
  /-- The second lookup, at the token check (R150). -/
  | resumeForbidden (a b : Token) (hi : i = .hashRsp a b true) (hf : s.fsm = .tokenHash) (hh : s.hashState = .hSecondSent)
      (hk : requiredTokenFor device.transMatrix s.lcState s.tgt = .invalid) : OpErrCause i s .transition
  /-- The volatile path (R141). -/
  | volatileMismatch (req : Requester) (hi : commandReq i = some req) (hg : s.transRegwen req = true)
      (hv : volatileCond (decodeTarget (s.slot req).target) s = true)
      (hm : matchToken s.tokens (s.slot req).assembled .rawUnlock = false) : OpErrCause i s .token
  /-- The token check (R150). -/
  | tokenMismatch (a b : Token) (hi : i = .hashRsp a b true) (hf : s.fsm = .tokenHash) (hh : s.hashState = .hSecondSent)
      (hm : matchToken s.tokens (recombine a b) (requiredTokenFor device.transMatrix s.lcState s.tgt) = false) :
      OpErrCause i s .token
  /-- The backend is busy at the count program (R145). -/
  | countBusy (req : Requester) (hi : commandReq i = some req) (hg : s.transRegwen req = true) (ha : s.otpAccept = false) :
      OpErrCause i s .otp
  /-- A negative acknowledge (R147, R152). -/
  | nack (hi : i = .otpAck false) (hp : s.otpPending = true) (hf : s.fsm = .cntProg ∨ s.fsm = .transProg) :
      OpErrCause i s .otp
  /-- The backend is busy at the state program (R151). -/
  | stateBusy (a b : Token) (hi : i = .hashRsp a b true) (hf : s.fsm = .tokenHash) (hh : s.hashState = .hSecondSent)
      (ha : s.otpAccept = false) : OpErrCause i s .otp

/-- An accepted command is no guest error (R189, R246). -/
theorem guestErrorCause_of_accepted {i : Instr} {s : State} {req : Requester} (hi : commandReq i = some req)
    (hg : s.transRegwen req = true) : guestErrorCause s i = false := by
  unfold commandReq at hi
  split at hi
  case h_1 => cases hi; simp [guestErrorCause, hg]
  case h_2 r w =>
    split at hi
    next => cases hi; simp [guestErrorCause, hg]
    next => cases hi
  case h_3 => cases hi

/-- R247: an operational error is raised only from inside a transition attempt. -/
theorem OpErrCause.in_attempt {i : Instr} {s : State} {e : OpErr} (h : OpErrCause i s e) :
    guestErrorCause s i = false ∧
    ((∃ req, commandReq i = some req ∧ s.owner = some req ∧ s.fsm = .idle) ∨ (∃ ok, i = .otpAck ok) ∨
      (∃ a b, i = .hashRsp a b true)) := by
  cases h with
  | countFull req hi hg _ | volatileMismatch req hi hg _ _ | countBusy req hi hg _ =>
    exact ⟨guestErrorCause_of_accepted hi hg, .inl ⟨req, hi, (transRegwen_iff s req).1 hg⟩⟩
  | checkForbidden hi _ _ _ | nack hi _ _ =>
    subst hi
    exact ⟨rfl, .inr (.inl ⟨_, rfl⟩)⟩
  | resumeForbidden a b hi _ _ _ | tokenMismatch a b hi _ _ _ | stateBusy a b hi _ _ _ =>
    subst hi
    exact ⟨rfl, .inr (.inr ⟨a, b, rfl⟩)⟩

/-! ### The effects on the status -/

/-- What an instruction can do to the status bits (R18). -/
inductive StatusEffect (i : Instr) (s t : State) : Prop where
  /-- Nothing, but that a start may switch the clock (R142). -/
  | kept (b : Bool) (hs : t.status = { s.status with extClockSwitched := b })
  /-- An operational error (R247), after the clock request of the same start. -/
  | raised (e : OpErr) (b : Bool) (hc : OpErrCause i s e) (hf : t.fsm = .postTrans)
      (hs : t.status = Status.withError { s.status with extClockSwitched := b } e)
  /-- The volatile unlock (R141). -/
  | unlocked (req : Requester) (hi : commandReq i = some req) (hg : s.transRegwen req = true)
      (hv : volatileCond (decodeTarget (s.slot req).target) s = true) (hf : t.fsm = .idle)
      (hs : t.status = { s.status with transitionSuccessful := true })
  /-- The committed target (R152). -/
  | committed (hi : i = .otpAck true) (hf : s.fsm = .transProg) (hp : s.otpPending = true)
      (hs : t.status = { s.status with transitionSuccessful := true })
  /-- The loader (R129). -/
  | loaded (info : OtpInfo) (fr : Bool) (hi : i = .init info fr) (hf : s.fsm = .reset)
      (hinv : t.initErr ≠ 0#6 → t.fsm = .invalid)
      (hs : t.status = { s.status with initialized := true, stateError := s.status.stateError || (t.initErr != 0#6) })
  /-- RESET (R270). -/
  | cleared (hs : t.status = Status.zero)

theorem StatusEffect.of_status_eq {i : Instr} {s t : State} (h : t.status = s.status) : StatusEffect i s t :=
  .kept s.status.extClockSwitched h

theorem StatusEffect.of_start {i : Instr} {s t : State} {req : Requester} (hi : commandReq i = some req)
    (hg : s.transRegwen req = true) (h : start device req s = .next t) : StatusEffect i s t := by
  cases start_end hg h with
  | unlocked hv _ ht => subst ht; exact .unlocked req hi hg hv ((transRegwen_iff s req).1 hg).2 rfl
  | mismatch hv hm ht => subst ht; exact .raised _ _ (.volatileMismatch req hi hg hv hm) rfl rfl
  | full _ hc ht =>
    subst ht
    exact .raised _ (started req s).status.extClockSwitched (.countFull req hi hg hc) rfl (by rw [started_eq]; rfl)
  | waiting _ _ _ _ _ _ _ ht => subst ht; exact .kept _ rfl
  | busy _ _ _ _ _ _ ha ht =>
    subst ht
    exact .raised _ (started req s).status.extClockSwitched (.countBusy req hi hg ha) rfl (by rw [started_eq]; rfl)

theorem StatusEffect.of_otpAck {s t : State} {ok : Bool} (h : otpAck device ok s = .next t) :
    StatusEffect (.otpAck ok) s t := by
  cases otpAck_end h with
  | unawaited _ ht | hashing _ _ _ _ _ ht | absorbed _ _ ht => subst ht; exact .of_status_eq rfl
  | countNack hp hf hok ht => subst hok ht; exact .raised _ _ (.nack rfl hp (.inl hf)) rfl rfl
  | stateNack hp hf hok ht => subst hok ht; exact .raised _ _ (.nack rfl hp (.inr hf)) rfl rfl
  | forbidden hp hf hok hk ht => subst hok ht; exact .raised _ _ (.checkForbidden rfl hf hp hk) rfl rfl
  | committed _ hp hf hok _ ht => subst hok ht; exact .committed rfl hf hp rfl

theorem StatusEffect.of_hashRsp {s t : State} {a b : Token} {d : Bool} (h : hashRsp device a b d s = .next t) :
    StatusEffect (.hashRsp a b d) s t := by
  cases hashRsp_end h with
  | unawaited _ ht | secondHalf _ _ ht | stored _ _ _ ht | waiting _ _ _ _ _ _ _ _ _ _ _ _ ht =>
    subst ht
    exact .of_status_eq rfl
  | forbidden hh hd hf hk ht => subst hd ht; exact .raised _ _ (.resumeForbidden a b rfl hf hh hk) rfl rfl
  | mismatch _ _ hh hd hf hk _ hm _ ht => subst hd hk ht; exact .raised _ _ (.tokenMismatch a b rfl hf hh hm) rfl rfl
  | busy _ _ _ hh hd hf _ _ _ _ _ ha ht => subst hd ht; exact .raised _ _ (.stateBusy a b rfl hf hh ha) rfl rfl

theorem StatusEffect.of_init (info : OtpInfo) (fr : Bool) (s : State) :
    StatusEffect (.init info fr) s (initReaction device info fr s) := by
  rcases initReaction_cases device info fr s with ⟨_, h⟩ | ⟨hf, h⟩ <;> rw [h]
  · exact .of_status_eq rfl
  · exact .loaded info fr rfl hf (fun herr => if_pos herr) rfl

/-- R18, R247, R248: everything an instruction can do to the status bits. -/
theorem exec_statusEffect {i : Instr} {s t : State} (h : exec i s = .next t) : StatusEffect i s t := by
  cases exec_effect h with
  | quiet _ _ _ ht | released _ _ _ _ ht | locked _ _ _ ht | control _ _ _ _ ht | escalated _ ht =>
    subst ht
    exact .of_status_eq rfl
  | claimed _ _ _ _ ht => subst ht; exact .of_status_eq (rearm_status _)
  | slotWritten req v _ _ _ ht => subst ht; exact .of_status_eq (setSlot_status s req v)
  | started _ hi hg ht => exact .of_start hi hg ht
  | acknowledged _ hi ht => subst hi; exact .of_otpAck ht
  | responded _ _ _ hi ht => subst hi; exact .of_hashRsp ht
  | initialized info fr hi ht => subst hi ht; exact .of_init info fr s
  | wasReset _ ht => subst ht; exact .cleared rfl

/-- R248: a newly set error bit has one of its own causes, and the attempt has ended. -/
theorem exec_raises {i : Instr} {s t : State} {e : OpErr} (h : exec i s = .next t) (h0 : s.status.error e = false)
    (h1 : t.status.error e = true) : t.fsm = .postTrans ∧ OpErrCause i s e := by
  cases exec_statusEffect h with
  | raised e' b hc hf hs =>
    have he : e' = e := by simpa [hs, h0] using h1
    exact he ▸ ⟨hf, hc⟩
  | kept _ hs | unlocked _ _ _ _ _ hs | committed _ _ _ hs | loaded _ _ _ _ _ hs | cleared hs => simp [hs, h0] at h1

/-- R248: success is newly reported only by the volatile unlock and by the acknowledge of the target. -/
theorem exec_succeeds {i : Instr} {s t : State} (h : exec i s = .next t) (h0 : s.status.transitionSuccessful = false)
    (h1 : t.status.transitionSuccessful = true) :
    (t.fsm = .idle ∧ ∃ req, commandReq i = some req ∧ s.owner = some req ∧ s.fsm = .idle ∧
      volatileCond (decodeTarget (s.slot req).target) s = true) ∨
    (i = .otpAck true ∧ s.fsm = .transProg ∧ s.otpPending = true) := by
  cases exec_statusEffect h with
  | unlocked req hi hg hv hf _ =>
    obtain ⟨ho, hidle⟩ := (transRegwen_iff s req).1 hg
    exact .inl ⟨hf, req, hi, ho, hidle, hv⟩
  | committed hi hf hp _ => exact .inr ⟨hi, hf, hp⟩
  | kept _ hs | raised _ _ _ _ hs | loaded _ _ _ _ _ hs | cleared hs => simp [hs, h0, Status.zero] at h1

/-- R248, R129: `state_error` is newly set only by a loader that found an error. -/
theorem exec_fails_initialization {i : Instr} {s t : State} (h : exec i s = .next t)
    (h0 : s.status.stateError = false) (h1 : t.status.stateError = true) :
    s.fsm = .reset ∧ t.fsm = .invalid ∧ t.initErr ≠ 0#6 ∧ ∃ info fr, i = .init info fr := by
  cases exec_statusEffect h with
  | loaded info fr hi hf hinv hs =>
    have herr : t.initErr ≠ 0#6 := by simpa [hs, h0] using h1
    exact ⟨hf, hinv herr, herr, info, fr, hi⟩
  | kept _ hs | raised _ _ _ _ hs | unlocked _ _ _ _ _ hs | committed _ _ _ hs | cleared hs =>
    simp [hs, h0, Status.zero] at h1

end Sys2Proof.Machine

namespace Sys2Proof.Proofs

open Machine

/-- Settles O43: the bits that are new after an instruction are those of `exec_raises`, and every cause lies inside an attempt. -/
theorem operationalErrorWritesOneBitAndTheFsm : Obligations.OperationalErrorWritesOneBitAndTheFsm := by
  refine ⟨fun s => ⟨rfl, rfl, rfl, rfl⟩, fun i s t e h hnew hset => ?_⟩
  have h0 : s.status.error e = false := Bool.eq_false_iff.2 (mt (eq_withError_iff s.status e).2 hnew)
  obtain ⟨_, hcause⟩ := exec_raises h h0 ((eq_withError_iff t.status e).1 hset)
  exact hcause.in_attempt

/-- Settles O44: `exec_raises` at each of the four errors, whose causes are read off `OpErrCause`; the bits of STATUS are R65's table. -/
theorem errorBitsHaveOnlyTheirListedCauses : Obligations.ErrorBitsHaveOnlyTheirListedCauses := by
  refine ⟨fun s => ?bits, fun i s t h => ⟨fun h0 h1 => ?count, fun h0 h1 => ?transition, fun h0 h1 => ?token,
    fun h0 h1 => ?otp, exec_succeeds h, exec_fails_initialization h⟩⟩
  case bits =>
    have bit := getLsbD_statusValue s
    exact ⟨bit 4, bit 5, bit 6, bit 8, bit 3, bit 9⟩
  case count =>
    obtain ⟨hf, hcause⟩ := exec_raises (e := .transitionCount) h h0 h1
    cases hcause with
    | countFull req hi hg hc =>
      obtain ⟨ho, hidle⟩ := (transRegwen_iff s req).1 hg
      exact ⟨hf, req, hi, ho, hidle, hc⟩
  case transition =>
    obtain ⟨hf, hcause⟩ := exec_raises (e := .transition) h h0 h1
    cases hcause with
    | checkForbidden hi hprog hp hk => exact ⟨hf, hk, .inl ⟨hi, hprog, hp⟩⟩
    | resumeForbidden a b hi hhash hh hk => exact ⟨hf, hk, .inr ⟨hhash, hh, a, b, hi⟩⟩
  case token =>
    obtain ⟨hf, hcause⟩ := exec_raises (e := .token) h h0 h1
    cases hcause with
    | volatileMismatch req hi hg hv hm =>
      obtain ⟨ho, hidle⟩ := (transRegwen_iff s req).1 hg
      exact ⟨hf, .inl ⟨req, hi, ho, hidle, hv, hm⟩⟩
    | tokenMismatch a b hi hhash hh hm => exact ⟨hf, .inr ⟨hhash, hh, a, b, hi, hm⟩⟩
  case otp =>
    obtain ⟨hf, hcause⟩ := exec_raises (e := .otp) h h0 h1
    cases hcause with
    | countBusy req hi hg ha =>
      obtain ⟨ho, hidle⟩ := (transRegwen_iff s req).1 hg
      exact ⟨hf, .inl ⟨req, hi, ho, hidle, ha⟩⟩
    | nack hi hp hprog => exact ⟨hf, .inr (.inl ⟨hi, hp, hprog⟩)⟩
    | stateBusy a b hi hhash hh ha => exact ⟨hf, .inr (.inr ⟨hhash, hh, ha, a, b, hi⟩)⟩

end Sys2Proof.Proofs
end

section
/-! Guest errors (R246): what they change, that the causes listed log one, and that nothing else does. -/

namespace Sys2Proof.Machine

theorem isRead_of_busRead {i : Instr} {req : Requester} {off : BitVec 8} (h : encode i = busRead req off) :
    isRead i = true := by
  simp only [isRead, h, busRead, busWe_busWord, Bool.not_false]

theorem isRead_of_busWrite {i : Instr} {req : Requester} {off : BitVec 8} {w : Word} (h : encode i = busWrite req off w) :
    isRead i = false := by
  simp only [isRead, h, busWrite, busWe_busWord, Bool.not_true]

/-! ### With a cause -/

/-- The outcome of a guest error, for reads and writes alike (R246). -/
def RaisesGuestError (i : Instr) (s : State) : Prop :=
  exec i s = .next { s with
    rdata := if isRead i then some 0#32 else s.rdata
    diag := s.diag ++ [.guestError] }

theorem RaisesGuestError.of_read {i : Instr} {s : State} {req : Requester} {off : BitVec 8}
    (he : encode i = busRead req off) (h : exec i s = .next (guestErrorRead s)) : RaisesGuestError i s := by
  unfold RaisesGuestError
  rw [isRead_of_busRead he]
  exact h

theorem RaisesGuestError.of_write {i : Instr} {s : State} {req : Requester} {off : BitVec 8} {w : Word}
    (he : encode i = busWrite req off w) (h : exec i s = .next (guestError s)) : RaisesGuestError i s := by
  unfold RaisesGuestError
  rw [isRead_of_busWrite he]
  exact h

/-- A write whose meaning is `if b then _ else guestError s`, with the guard `b` closed. -/
theorem RaisesGuestError.of_guard {i : Instr} {s : State} {req : Requester} {off : BitVec 8} {w : Word} {b : Bool}
    {t : State} (hb : (!b) = true) (he : encode i = busWrite req off w)
    (h : exec i s = .next (if b then t else guestError s)) : RaisesGuestError i s :=
  .of_write he (h.trans (congrArg _ (if_neg (by simpa using hb))))

/-- R246: each of the listed causes raises a guest error. The accesses without a register and the writes of read-only registers
do nothing else; of the others the cause is a closed guard. -/
theorem raisesGuestError_of_cause {i : Instr} {s : State} (hc : guestErrorCause s i = true) : RaisesGuestError i s := by
  cases i with
  | rdUnmapped30 | rdUnmapped34 | rdOutOfRange8C8C | rdOutOfRange909C | rdOutOfRangeA0Bc | rdOutOfRangeC0Fc =>
    exact .of_read rfl rfl
  | wrUnmapped30 | wrUnmapped34 | wrOutOfRange8C8C | wrOutOfRange909C | wrOutOfRangeA0Bc | wrOutOfRangeC0Fc
  | wrStatus | wrTransitionRegwen | wrLcState | wrLcTransitionCnt | wrLcIdState | wrHwRevision0 | wrHwRevision1
  | wrDeviceId0 | wrDeviceId1 | wrDeviceId2 | wrDeviceId3 | wrDeviceId4 | wrDeviceId5 | wrDeviceId6 | wrDeviceId7
  | wrManufState0 | wrManufState1 | wrManufState2 | wrManufState3 | wrManufState4 | wrManufState5 | wrManufState6
  | wrManufState7 =>
    exact .of_write rfl rfl
  | wrTransitionCtrl | wrTransitionToken0 | wrTransitionToken1 | wrTransitionToken2 | wrTransitionToken3
  | wrTransitionTarget | lockClaim | wrClaimTransitionIf | claim | release =>
    exact .of_guard hc rfl rfl
  | wrClaimTransitionIfRegwen req w =>
    obtain ⟨hw, hg⟩ := Bool.and_eq_true_iff.1 hc
    exact .of_guard hg rfl (congrArg _ (if_neg (by simpa using hw)))
  | start req hi =>
    exact .of_write rfl (start_of_locked device (mt (transRegwen_iff s req).2 (by simpa [guestErrorCause] using hc)))
  | wrTransitionCmd req w =>
    obtain ⟨hw, hg⟩ := Bool.and_eq_true_iff.1 hc
    exact .of_write rfl
      ((if_pos hw).trans (start_of_locked device (mt (transRegwen_iff s req).2 (by simpa using hg))))
  | _ => cases hc

/-! ### Without a cause -/

theorem start_diag {req : Requester} {s t : State} (hg : s.transRegwen req = true) (h : start device req s = .next t) :
    t.diag = s.diag := by
  cases start_end hg h <;> subst t <;> rfl

theorem otpAck_diag {ok : Bool} {s t : State} (h : otpAck device ok s = .next t) : t.diag = s.diag := by
  cases otpAck_end h <;> subst t <;> rfl

theorem initReaction_diag (c : Config) (info : OtpInfo) (fr : Bool) (s : State) :
    (initReaction c info fr s).diag = s.diag := by
  rcases initReaction_cases c info fr s with ⟨_, h⟩ | ⟨_, h⟩ <;> rw [h]

theorem claim_diag (req : Requester) (s : State) : (claim req s).2.diag = s.diag := by
  rcases claim_cases req s with ⟨_, h⟩ | ⟨_, h⟩ | ⟨_, h⟩ <;> rw [h]
  exact rearm_diag _

theorem replyView_diag (view : Option Word) (v : Word) (s : State) : (replyView view v s).diag = s.diag := by
  rcases replyView_cases view v s with h | h <;> rw [h] <;> rfl

/-- R98: the only line a hash response logs is that of an unset token kind. -/
theorem hashRsp_diag {a b : Token} {d : Bool} {s t : State} (h : hashRsp device a b d s = .next t) :
    t.diag = s.diag ∨ t.diag = s.diag ++ [.unsetTokenKind] := by
  cases hashRsp_end h with
  | unawaited _ ht | secondHalf _ _ ht | stored _ _ _ ht | forbidden _ _ _ _ ht
  | waiting _ _ _ _ _ _ _ _ _ _ _ _ ht | busy _ _ _ _ _ _ _ _ _ _ _ _ ht =>
    subst ht
    exact .inl rfl
  | mismatch k dg _ _ _ _ _ _ hdg ht =>
    subst ht hdg
    cases hu : s.tokens.usable k <;> simp

/-- With its guard open, a write logs what its effect logs. -/
theorem guarded_diag {b : Bool} {u s : State} (hb : (!b) = false) (hu : u.diag = s.diag) :
    (if b then u else guestError s).diag = s.diag := by
  rw [if_pos (by simpa using hb), hu]

theorem claimRegwenWrite_diag {req : Requester} {w : Word} {s : State}
    (hc : guestErrorCause s (.wrClaimTransitionIfRegwen req w) = false) : (claimRegwenWrite req w s).diag = s.diag := by
  unfold claimRegwenWrite
  split
  next => rfl
  next hw =>
    refine guarded_diag ?_ rfl
    simpa only [guestErrorCause, eq_false_of_ne_true hw, Bool.not_false, Bool.true_and] using hc

theorem cmdWrite_diag {req : Requester} {w : Word} {s t : State}
    (hc : guestErrorCause s (.wrTransitionCmd req w) = false) (h : cmdWrite device req w s = .next t) :
    t.diag = s.diag := by
  unfold cmdWrite at h
  split at h
  next hw => exact start_diag (by simpa [guestErrorCause, hw] using hc) h
  next =>
    cases h
    rfl

theorem claimWrite_diag {req : Requester} {w : Word} {s : State}
    (hc : guestErrorCause s (.wrClaimTransitionIf req w) = false) : (claimWrite req w s).diag = s.diag := by
  refine guarded_diag hc ?_
  split
  next => exact claim_diag req s
  next => exact release_diag req s

/-- R246: without one of the listed causes no guest error is logged. -/
theorem exec_diag_of_no_cause {i : Instr} {s t : State} (hc : guestErrorCause s i = false) (h : exec i s = .next t) :
    t.diag = s.diag ∨ t.diag = s.diag ++ [.unsetTokenKind] := by
  cases i with
  | rdAlertTest | rdStatus | rdClaimTransitionIfRegwen | rdClaimTransitionIf | rdTransitionRegwen | rdTransitionCmd
  | rdTransitionCtrl | rdTransitionToken0 | rdTransitionToken1 | rdTransitionToken2 | rdTransitionToken3
  | rdTransitionTarget | rdHwRevision0 | rdHwRevision1
  | rdDeviceId0 | rdDeviceId1 | rdDeviceId2 | rdDeviceId3 | rdDeviceId4 | rdDeviceId5 | rdDeviceId6 | rdDeviceId7
  | rdManufState0 | rdManufState1 | rdManufState2 | rdManufState3 | rdManufState4 | rdManufState5 | rdManufState6
  | rdManufState7 | wrAlertTest | reset | escalate =>
    cases h
    exact .inl rfl
  | rdLcState | rdLcTransitionCnt | rdLcIdState =>
    cases h
    exact .inl (replyView_diag _ _ s)
  | init info fr =>
    cases h
    exact .inl (initReaction_diag device info fr s)
  | otpAck ok => exact .inl (otpAck_diag h)
  | hashRsp a b d => exact hashRsp_diag h
  | start req hi => exact .inl (start_diag (by simpa [guestErrorCause] using hc) h)
  | wrTransitionCmd req w => exact .inl (cmdWrite_diag hc h)
  | wrClaimTransitionIfRegwen req w =>
    cases h
    exact .inl (claimRegwenWrite_diag hc)
  | wrClaimTransitionIf req w =>
    cases h
    exact .inl (claimWrite_diag hc)
  | claim req hi =>
    cases h
    exact .inl (guarded_diag hc (claim_diag req s))
  | release req hi =>
    cases h
    exact .inl (guarded_diag hc (release_diag req s))
  | wrTransitionCtrl | lockClaim =>
    cases h
    exact .inl (guarded_diag hc rfl)
  | wrTransitionToken0 req w | wrTransitionToken1 req w | wrTransitionToken2 req w | wrTransitionToken3 req w
  | wrTransitionTarget req w =>
    cases h
    exact .inl (guarded_diag hc (setSlot_diag s req _))
  | _ => cases hc

/-! ### The defined no-ops -/

/-- R137: a claim of a mutex the other requester holds. -/
theorem exec_claim_of_other {i : Instr} {req : Requester} {s : State} (hi : claimReq i = some req)
    (hr : s.claimRegwen = true) (ho : s.owner = some req.other) : exec i s = .next s := by
  rw [exec_of_claimReq hi hr, claim_of_owned req ho]

/-- R138: a release by a requester that does not hold the mutex. -/
theorem exec_release_of_not_owner {i : Instr} {req : Requester} {s : State} (hi : releaseReq i = some req)
    (hr : s.claimRegwen = true) (ho : s.owner ≠ some req) : exec i s = .next s := by
  rw [exec_of_releaseReq hi hr, release, if_neg ho]

theorem exec_wrClaimTransitionIfRegwen_of_one {req : Requester} {w : Word} (s : State) (hw : w.getLsbD 0 = true) :
    exec (.wrClaimTransitionIfRegwen req w) s = .next s := congrArg _ (if_pos hw)

theorem exec_wrTransitionCmd_of_zero {req : Requester} {w : Word} (s : State) (hw : w.getLsbD 0 = false) :
    exec (.wrTransitionCmd req w) s = .next s := if_neg (Bool.not_eq_true _ ▸ hw)

end Sys2Proof.Machine

namespace Sys2Proof.Proofs

open Machine

/-- Settles O21: a listed cause is a closed guard or an access that does nothing else; without one, a reaction logs nothing or, at the
token check, the line of an unset kind, which is no guest error. -/
theorem guestErrorsHaveExactlyTheListedCauses : Obligations.GuestErrorsHaveExactlyTheListedCauses := by
  refine fun i s => ⟨raisesGuestError_of_cause, fun hc t h => ?unlisted, fun _ hr hi => exec_claim_of_other hi hr,
    fun _ hr hi => exec_release_of_not_owner hi hr, fun req w =>
      ⟨exec_wrClaimTransitionIfRegwen_of_one s, exec_wrTransitionCmd_of_zero s, rfl⟩⟩
  case unlisted =>
    rcases exec_diag_of_no_cause hc h with hdiag | hdiag <;> simp [hdiag]

end Sys2Proof.Proofs
end

section
/-! A transition in flight (R276): which of the effects of an instruction are left while the FSM waits for a completion. -/

namespace Sys2Proof.Machine

/-- The three FSM states that wait for a completion (R136) are none of the states in which a start, INIT or a re-arming claim acts. -/
theorem ne_of_inFlight {f : FsmState} (h : f = .cntProg ∨ f = .tokenHash ∨ f = .transProg) :
    f ≠ .reset ∧ f ≠ .idle ∧ f ≠ .postTrans := by
  rcases h with rfl | rfl | rfl <;> decide

/-- R146: an acknowledge moves the FSM only where it is awaited. -/
theorem awaited_of_otpAck_fsm_ne {ok : Bool} {s t : State} (h : otpAck device ok s = .next t) (hne : t.fsm ≠ s.fsm) :
    s.otpPending = true ∧ (s.fsm = .cntProg ∨ s.fsm = .transProg) := by
  cases otpAck_end h with
  | unawaited _ ht | absorbed _ _ ht => subst ht; exact absurd rfl hne
  | countNack hp hf _ _ | forbidden hp hf _ _ _ | hashing hp hf _ _ _ _ => exact ⟨hp, .inl hf⟩
  | stateNack hp hf _ _ | committed _ hp hf _ _ _ => exact ⟨hp, .inr hf⟩

/-- R105, R107: a hash response moves the FSM only if it is the final one and TOKEN_HASH waits for it. -/
theorem awaited_of_hashRsp_fsm_ne {a b : Token} {d : Bool} {s t : State} (h : hashRsp device a b d s = .next t)
    (hne : t.fsm ≠ s.fsm) : s.fsm = .tokenHash ∧ s.hashState = .hSecondSent ∧ d = true := by
  cases hashRsp_end h with
  | unawaited _ ht | secondHalf _ _ ht | stored _ _ _ ht => subst ht; exact absurd rfl hne
  | forbidden hh hd hf _ _ | mismatch _ _ hh hd hf _ _ _ _ _ | waiting _ _ _ hh hd hf _ _ _ _ _ _ _
  | busy _ _ _ hh hd hf _ _ _ _ _ _ _ => exact ⟨hf, hh, hd⟩

/-- What is left of `Effect` while a transition is in flight: of the bus accesses only those that write at most the owner. -/
inductive InFlightEffect (i : Instr) (s t : State) : Prop where
  /-- Reads, guest errors (all gated writes and starts among them), defined no-ops, and INIT outside RESET. -/
  | quiet (v : Option Word) (dg : List Diag) (n : Nat) (ht : t = { s with rdata := v, diag := dg, freeCtr := n })
  /-- The mutex changes hands, with no re-arming (R137, R138). -/
  | ownerWritten (o : Option Requester) (ht : t = { s with owner := o })
  | acknowledged (ok : Bool) (hi : i = .otpAck ok) (ht : otpAck device ok s = .next t)
  | responded (a b : Token) (d : Bool) (hi : i = .hashRsp a b d) (ht : hashRsp device a b d s = .next t)
  | wasReset (hi : i = .reset)
  | escalated (hi : i = .escalate) (ht : t = { s with fsm := .escalate })

/-- R276: of the twelve effects, those that need IDLE or RESET cannot happen, and a claim re-arms nothing. -/
theorem exec_inFlightEffect {i : Instr} {s t : State} (hwait : s.fsm = .cntProg ∨ s.fsm = .tokenHash ∨ s.fsm = .transProg)
    (h : exec i s = .next t) : InFlightEffect i s t := by
  obtain ⟨hreset, hidle, hpost⟩ := ne_of_inFlight hwait
  cases exec_effect h with
  | quiet v dg n ht => exact .quiet v dg n ht
  | claimed req _ _ _ ht =>
    rcases rearm_cases { s with owner := some req } with ⟨hf, _⟩ | ⟨_, hkept⟩
    · exact absurd hf hpost
    · exact .ownerWritten (some req) (ht.trans hkept)
  | released _ _ _ _ ht => exact .ownerWritten none ht
  | locked req _ hg _ | control req _ _ hg _ | slotWritten req _ _ hg _ _ | started req _ hg _ =>
    exact absurd ((transRegwen_iff s req).1 hg).2 hidle
  | acknowledged ok hi ht => exact .acknowledged ok hi ht
  | responded a b d hi ht => exact .responded a b d hi ht
  | initialized info fr _ ht =>
    rcases initReaction_cases device info fr s with ⟨_, hkept⟩ | ⟨hf, _⟩
    · exact .quiet s.rdata s.diag s.freeCtr (ht.trans hkept)
    · exact absurd hf hreset
  | wasReset hi _ => exact .wasReset hi
  | escalated hi ht => exact .escalated hi ht

/-- R276: the ways out are RESET, ESCALATE and the completion that is awaited. -/
theorem InFlightEffect.way_out {i : Instr} {s t : State} (h : InFlightEffect i s t) (hne : t.fsm ≠ s.fsm) :
    i = .reset ∨ i = .escalate ∨
    (s.fsm = .tokenHash ∧ s.hashState = .hSecondSent ∧ ∃ a b, i = .hashRsp a b true) ∨
    (s.fsm ≠ .tokenHash ∧ s.otpPending = true ∧ ∃ ok, i = .otpAck ok) := by
  cases h with
  | quiet _ _ _ ht | ownerWritten _ ht => subst ht; exact absurd rfl hne
  | acknowledged ok hi ht =>
    obtain ⟨hp, hf⟩ := awaited_of_otpAck_fsm_ne ht hne
    have hnot : s.fsm ≠ .tokenHash := by rcases hf with hf | hf <;> simp [hf]
    exact .inr (.inr (.inr ⟨hnot, hp, ok, hi⟩))
  | responded a b d hi ht =>
    obtain ⟨hf, hh, rfl⟩ := awaited_of_hashRsp_fsm_ne ht hne
    exact .inr (.inr (.inl ⟨hf, hh, a, b, hi⟩))
  | wasReset hi => exact .inl hi
  | escalated hi _ => exact .inr (.inl hi)

/-- R276: a bus access or an ESCALATE writes at most the owner, the FSM and the outputs, so it keeps the operands of the transition and the
two waits. -/
theorem InFlightEffect.frame {i : Instr} {s t : State} (h : InFlightEffect i s t)
    (hi : (stimulusReq i).isSome = true ∨ i = .escalate) :
    t.xactReq = s.xactReq ∧ t.hashReq = s.hashReq ∧ t.slotSw = s.slotSw ∧ t.slotDbg = s.slotDbg ∧ t.ctrl = s.ctrl ∧
    t.lcState = s.lcState ∧ t.lcCnt = s.lcCnt ∧ t.otpPending = s.otpPending ∧ t.hashState = s.hashState := by
  cases h with
  | quiet _ _ _ ht | ownerWritten _ ht | escalated _ ht =>
    subst ht
    exact ⟨rfl, rfl, rfl, rfl, rfl, rfl, rfl, rfl, rfl⟩
  | acknowledged _ hevent _ | responded _ _ _ hevent _ | wasReset hevent =>
    subst hevent
    exact hi.elim nofun nofun

end Sys2Proof.Machine

namespace Sys2Proof.Proofs

open Machine

/-- Settles O47: of the effects left in flight, only the awaited completion, ESCALATE and RESET move the FSM, and no bus access writes an operand
or a wait. -/
theorem transitionsInFlightAreNotCancelled : Obligations.TransitionsInFlightAreNotCancelled := by
  intro i s t hwait h
  have heffect := exec_inFlightEffect hwait h
  exact ⟨heffect.way_out, heffect.frame⟩

end Sys2Proof.Proofs
end

section
/-! Decoding and encoding (R41, R61 to R63): a register's word decodes to the access of that register, a word's instruction has that word, and what is
no stimulus is refused. -/

namespace Sys2Proof

/-! ### The offsets past the window (R211) -/

theorem offAligned_iff (off : BitVec 8) : offAligned off = true ↔ off.toNat % 4 = 0 := by
  simp [offAligned, ← BitVec.toNat_inj]

theorem class_909c_iff (off : BitVec 8) :
    (offAligned off && 0x90#8 ≤ off && off ≤ 0x9C#8) = true ↔
      offAligned off = true ∧ 0x90 ≤ off.toNat ∧ off.toNat ≤ 0x9C := by
  simp [BitVec.le_def, and_assoc]

theorem class_a0bc_iff (off : BitVec 8) :
    (offAligned off && 0xA0#8 ≤ off && off ≤ 0xBC#8) = true ↔
      offAligned off = true ∧ 0xA0 ≤ off.toNat ∧ off.toNat ≤ 0xBC := by
  simp [BitVec.le_def, and_assoc]

theorem class_c0fc_iff (off : BitVec 8) :
    (offAligned off && 0xC0#8 ≤ off) = true ↔ offAligned off = true ∧ 0xC0 ≤ off.toNat := by
  simp [BitVec.le_def]

/-- Past the window a read decodes by the two upper bounds alone. -/
theorem decodeRead_of_ge (req : Requester) {off : BitVec 8} (h : 0x90 ≤ off.toNat) :
    decodeRead req off =
      if off.toNat ≤ 0x9C then .rdOutOfRange909C req off
      else if off.toNat ≤ 0xBC then .rdOutOfRangeA0Bc req off
      else .rdOutOfRangeC0Fc req off := by
  unfold decodeRead
  split
  case h_37 => rfl
  all_goals omega

/-- Past the window a write decodes by the two upper bounds alone. -/
theorem decodeWrite_of_ge (req : Requester) {off : BitVec 8} (w : Word) (h : 0x90 ≤ off.toNat) :
    decodeWrite req off w =
      if off.toNat ≤ 0x9C then .wrOutOfRange909C req off w
      else if off.toNat ≤ 0xBC then .wrOutOfRangeA0Bc req off w
      else .wrOutOfRangeC0Fc req off w := by
  unfold decodeWrite
  split
  case h_37 => rfl
  all_goals omega

/-! ### From the instruction to its word and back -/

theorem decode_of_encode_read {i : Instr} {req : Requester} {off : BitVec 8} (he : encode i = busRead req off)
    (ha : offAligned off = true) (hd : decodeRead req off = i) : decode (encode i) = .ok i := by
  rw [he, busRead, decode_busWord req false off 0#32 ha, if_neg Bool.false_ne_true, hd]

theorem decode_of_encode_write {i : Instr} {req : Requester} {off : BitVec 8} {w : Word}
    (he : encode i = busWrite req off w) (ha : offAligned off = true) (hd : decodeWrite req off w = i) :
    decode (encode i) = .ok i := by
  rw [he, busWrite, decode_busWord req true off w ha, if_pos rfl, hd]

/-- Bit 0 of the write data whose bit 0 is given apart (R63). -/
theorem append_bit_zero (hi : BitVec 31) (b : BitVec 1) : (hi ++ b : Word).getLsbD 0 = b.getLsbD 0 := by
  rw [BitVec.getLsbD_append, if_pos Nat.zero_lt_one]

/-- R63: the words of the pseudo-stimuli decode to them, and those of the plain writes of the same registers to the writes. -/
theorem decodeWrite_lockClaim (req : Requester) (hi : BitVec 31) :
    decodeWrite req 0x08#8 (hi ++ 0#1) = .lockClaim req hi := by
  refine (if_neg ?_).trans (congrArg _ (append_high hi 0#1))
  rw [append_bit_zero]
  decide

theorem decodeWrite_start (req : Requester) (hi : BitVec 31) : decodeWrite req 0x14#8 (hi ++ 1#1) = .start req hi := by
  refine (if_pos ?_).trans (congrArg _ (append_high hi 1#1))
  rw [append_bit_zero]
  decide

theorem decodeWrite_claim (req : Requester) (hi : BitVec 24) :
    decodeWrite req 0x0C#8 (hi ++ 0x96#8) = .claim req hi :=
  (if_pos (append_low hi 0x96#8)).trans (congrArg _ (append_high hi 0x96#8))

theorem decodeWrite_release (req : Requester) (hi : BitVec 24) :
    decodeWrite req 0x0C#8 (hi ++ 0x69#8) = .release req hi := by
  have hlow : (hi ++ 0x69#8 : Word).extractLsb' 0 8 = 0x69#8 := append_low hi 0x69#8
  have hne : (hi ++ 0x69#8 : Word).extractLsb' 0 8 ≠ 0x96#8 := by
    rw [hlow]
    decide
  exact (if_neg hne).trans ((if_pos hlow).trans (congrArg _ (append_high hi 0x69#8)))

theorem decodeWrite_claimTransitionIf (req : Requester) {w : Word} (h1 : w.extractLsb' 0 8 ≠ 0x96#8)
    (h2 : w.extractLsb' 0 8 ≠ 0x69#8) : decodeWrite req 0x0C#8 w = .wrClaimTransitionIf req w :=
  (if_neg h1).trans (if_neg h2)

/-! ### From the word to its instruction and back -/

theorem ofNat_of_toNat_eq {off : BitVec 8} {n : Nat} (h : off.toNat = n) : BitVec.ofNat 8 n = off := by
  rw [← h, BitVec.ofNat_toNat, BitVec.setWidth_eq]

/-- R41, R211: the read of an aligned offset is well-formed and has that offset in its word. -/
theorem encode_decodeRead (req : Requester) {off : BitVec 8} (ha : offAligned off = true) :
    (decodeRead req off).wellFormed = true ∧ encode (decodeRead req off) = busRead req off := by
  have hmod := (offAligned_iff off).1 ha
  by_cases hge : 0x90 ≤ off.toNat
  · rw [decodeRead_of_ge req hge]
    split_ifs
    · exact ⟨(class_909c_iff off).2 ⟨ha, by omega⟩, rfl⟩
    · exact ⟨(class_a0bc_iff off).2 ⟨ha, by omega⟩, rfl⟩
    · exact ⟨(class_c0fc_iff off).2 ⟨ha, by omega⟩, rfl⟩
  · unfold decodeRead
    split
    case h_37 =>
      simp only [imp_false] at *
      omega
    all_goals exact ⟨rfl, congrArg (busRead req) (ofNat_of_toNat_eq ‹off.toNat = _›)⟩

/-- R63: the write data of a pseudo-stimulus put together again. -/
theorem append_extractLsb' {m k : Nat} (w : BitVec (m + k)) : w.extractLsb' k m ++ w.extractLsb' 0 k = w :=
  (BitVec.extractLsb'_append_extractLsb'_eq_extractLsb' (Nat.zero_add k).symm).trans BitVec.extractLsb'_eq_self

theorem append_bit_zero_self (w : Word) : (w.extractLsb' 1 31 ++ BitVec.ofBool (w.getLsbD 0) : Word) = w := by
  have hlow : BitVec.ofBool (w.getLsbD 0) = w.extractLsb' 0 1 := by
    apply BitVec.eq_of_getLsbD_eq
    intro i hi
    obtain rfl : i = 0 := by omega
    simp
  rw [hlow]
  exact append_extractLsb' (m := 31) (k := 1) w

/-- R41, R63, R211: the write of an aligned offset is well-formed and has that offset and that write data in its word. -/
theorem encode_decodeWrite (req : Requester) {off : BitVec 8} (w : Word) (ha : offAligned off = true) :
    (decodeWrite req off w).wellFormed = true ∧ encode (decodeWrite req off w) = busWrite req off w := by
  have hmod := (offAligned_iff off).1 ha
  by_cases hge : 0x90 ≤ off.toNat
  · rw [decodeWrite_of_ge req w hge]
    split_ifs
    · exact ⟨(class_909c_iff off).2 ⟨ha, by omega⟩, rfl⟩
    · exact ⟨(class_a0bc_iff off).2 ⟨ha, by omega⟩, rfl⟩
    · exact ⟨(class_c0fc_iff off).2 ⟨ha, by omega⟩, rfl⟩
  · have data := append_bit_zero_self w
    unfold decodeWrite
    split
    case h_37 =>
      simp only [imp_false] at *
      omega
    case h_3 h =>
      cases hb : w.getLsbD 0 with
      | true => exact ⟨hb, congrArg (busWrite req · w) (ofNat_of_toNat_eq h)⟩
      | false =>
        rw [hb] at data
        exact ⟨rfl, congrArg₂ (busWrite req) (ofNat_of_toNat_eq h) data⟩
    case h_4 h =>
      split_ifs with h96 h69
      · exact ⟨rfl, congrArg₂ (busWrite req) (ofNat_of_toNat_eq h) (h96 ▸ append_extractLsb' (m := 24) (k := 8) w)⟩
      · exact ⟨rfl, congrArg₂ (busWrite req) (ofNat_of_toNat_eq h) (h69 ▸ append_extractLsb' (m := 24) (k := 8) w)⟩
      · exact ⟨by simp [Instr.wellFormed, h96, h69], congrArg (busWrite req · w) (ofNat_of_toNat_eq h)⟩
    case h_6 h =>
      cases hb : w.getLsbD 0 with
      | true =>
        rw [hb] at data
        exact ⟨rfl, congrArg₂ (busWrite req) (ofNat_of_toNat_eq h) data⟩
      | false => exact ⟨congrArg (!·) hb, congrArg (busWrite req · w) (ofNat_of_toNat_eq h)⟩
    all_goals exact ⟨rfl, congrArg (busWrite req · w) (ofNat_of_toNat_eq ‹off.toNat = _›)⟩

/-- D2: a word with an aligned offset decodes by its four fields. -/
theorem decode_aligned {w : BusWord} (ha : offAligned (busOff w) = true) :
    decode (.bus .word w) =
      .ok (if busWe w then decodeWrite (busIfc w) (busOff w) (busWdata w) else decodeRead (busIfc w) (busOff w)) :=
  if_pos ha

/-! ### What is no stimulus -/

theorem decode_misaligned {w : BusWord} (h : (busOff w).toNat % 4 ≠ 0) : decode (.bus .word w) = .error .misaligned :=
  if_neg (mt (offAligned_iff (busOff w)).1 h)

/-- R62: the event codes are 0x01 to 0x05. -/
theorem decodeEvt_of_no_event {code : BitVec 8} (ops : EvtOperands) (h : code.toNat = 0 ∨ 6 ≤ code.toNat) :
    decode (.evt code ops) = .error .notAnEvent := by
  simp only [decode, decodeEvt]
  split
  case h_6 => rfl
  all_goals omega

end Sys2Proof

namespace Sys2Proof.Machine

theorem step_of_nil {s : State} (h : s.inputs = []) : step s = .next s := by
  unfold step
  rw [h]

theorem step_of_decode {s : State} {inp : Input} {rest : List Input} {i : Instr} (h : s.inputs = inp :: rest)
    (hd : decode inp.stim = .ok i) : step s = exec i (s.beginReaction inp rest) := by
  unfold step
  rw [h]
  simp only [hd]

theorem step_of_decode_error {s : State} {inp : Input} {rest : List Input} {e : DecodeError} (h : s.inputs = inp :: rest)
    (hd : decode inp.stim = .error e) : step s = .refused (refusalOf e) := by
  unfold step
  rw [h]
  simp only [hd]

/-- Everything a step can do. -/
theorem step_cases (s : State) :
    (s.inputs = [] ∧ step s = .next s) ∨
    ∃ inp rest, s.inputs = inp :: rest ∧
      ((∃ e, decode inp.stim = .error e ∧ step s = .refused (refusalOf e)) ∨
       (∃ i, decode inp.stim = .ok i ∧ step s = exec i (s.beginReaction inp rest))) := by
  cases hin : s.inputs with
  | nil => exact .inl ⟨rfl, step_of_nil hin⟩
  | cons inp rest =>
    refine .inr ⟨inp, rest, rfl, ?_⟩
    cases hd : decode inp.stim with
    | error e => exact .inl ⟨e, rfl, step_of_decode_error hin hd⟩
    | ok i => exact .inr ⟨i, rfl, step_of_decode hin hd⟩

end Sys2Proof.Machine

namespace Sys2Proof.Proofs

open Machine

/-- Settles O1: the fields of the word that the encoder writes are the ones the decoder reads; the accesses without a register need their class's range,
and the three writes that share a word with a pseudo-stimulus need that their data is not the pseudo-stimulus's. -/
theorem decodeOfEncodeGivesTheInstruction : Obligations.DecodeOfEncodeGivesTheInstruction := by
  intro i hwf
  cases i with
  | reset | init | otpAck | hashRsp | escalate => rfl
  | lockClaim req hi => exact decode_of_encode_write rfl rfl (decodeWrite_lockClaim req hi)
  | start req hi => exact decode_of_encode_write rfl rfl (decodeWrite_start req hi)
  | claim req hi => exact decode_of_encode_write rfl rfl (decodeWrite_claim req hi)
  | release req hi => exact decode_of_encode_write rfl rfl (decodeWrite_release req hi)
  | wrClaimTransitionIfRegwen req w => exact decode_of_encode_write rfl rfl (if_pos hwf)
  | wrTransitionCmd req w => exact decode_of_encode_write rfl rfl (if_neg (by simpa [Instr.wellFormed] using hwf))
  | wrClaimTransitionIf req w =>
    obtain ⟨h96, h69⟩ : w.extractLsb' 0 8 ≠ 0x96#8 ∧ w.extractLsb' 0 8 ≠ 0x69#8 := by
      simpa [Instr.wellFormed] using hwf
    exact decode_of_encode_write rfl rfl (decodeWrite_claimTransitionIf req h96 h69)
  | rdOutOfRange909C req off =>
    obtain ⟨ha, hlo, hhi⟩ := (class_909c_iff off).1 hwf
    exact decode_of_encode_read rfl ha ((decodeRead_of_ge req hlo).trans (if_pos hhi))
  | wrOutOfRange909C req off w =>
    obtain ⟨ha, hlo, hhi⟩ := (class_909c_iff off).1 hwf
    exact decode_of_encode_write rfl ha ((decodeWrite_of_ge req w hlo).trans (if_pos hhi))
  | rdOutOfRangeA0Bc req off =>
    obtain ⟨ha, hlo, hhi⟩ := (class_a0bc_iff off).1 hwf
    exact decode_of_encode_read rfl ha
      ((decodeRead_of_ge req (by omega)).trans ((if_neg (by omega)).trans (if_pos hhi)))
  | wrOutOfRangeA0Bc req off w =>
    obtain ⟨ha, hlo, hhi⟩ := (class_a0bc_iff off).1 hwf
    exact decode_of_encode_write rfl ha
      ((decodeWrite_of_ge req w (by omega)).trans ((if_neg (by omega)).trans (if_pos hhi)))
  | rdOutOfRangeC0Fc req off =>
    obtain ⟨ha, hlo⟩ := (class_c0fc_iff off).1 hwf
    exact decode_of_encode_read rfl ha
      ((decodeRead_of_ge req (by omega)).trans ((if_neg (by omega)).trans (if_neg (by omega))))
  | wrOutOfRangeC0Fc req off w =>
    obtain ⟨ha, hlo⟩ := (class_c0fc_iff off).1 hwf
    exact decode_of_encode_write rfl ha
      ((decodeWrite_of_ge req w (by omega)).trans ((if_neg (by omega)).trans (if_neg (by omega))))
  | rdAlertTest | rdStatus | rdClaimTransitionIfRegwen | rdClaimTransitionIf | rdTransitionRegwen | rdTransitionCmd
  | rdTransitionCtrl | rdTransitionToken0 | rdTransitionToken1 | rdTransitionToken2 | rdTransitionToken3
  | rdTransitionTarget | rdLcState | rdLcTransitionCnt | rdLcIdState | rdHwRevision0 | rdHwRevision1
  | rdDeviceId0 | rdDeviceId1 | rdDeviceId2 | rdDeviceId3 | rdDeviceId4 | rdDeviceId5 | rdDeviceId6 | rdDeviceId7
  | rdManufState0 | rdManufState1 | rdManufState2 | rdManufState3 | rdManufState4 | rdManufState5 | rdManufState6
  | rdManufState7 | rdUnmapped30 | rdUnmapped34 | rdOutOfRange8C8C =>
    exact decode_of_encode_read rfl rfl rfl
  | wrAlertTest | wrStatus | wrTransitionRegwen | wrTransitionCtrl | wrTransitionToken0 | wrTransitionToken1
  | wrTransitionToken2 | wrTransitionToken3 | wrTransitionTarget | wrLcState | wrLcTransitionCnt | wrLcIdState
  | wrHwRevision0 | wrHwRevision1
  | wrDeviceId0 | wrDeviceId1 | wrDeviceId2 | wrDeviceId3 | wrDeviceId4 | wrDeviceId5 | wrDeviceId6 | wrDeviceId7
  | wrManufState0 | wrManufState1 | wrManufState2 | wrManufState3 | wrManufState4 | wrManufState5 | wrManufState6
  | wrManufState7 | wrUnmapped30 | wrUnmapped34 | wrOutOfRange8C8C =>
    exact decode_of_encode_write rfl rfl rfl

/-- Settles O2: the word decodes by its fields, and a word is put together again from them. -/
theorem everyAlignedBusWordIsOneStimulus : Obligations.EveryAlignedBusWordIsOneStimulus := by
  intro w ha
  refine ⟨_, decode_aligned ha, ?_⟩
  cases hwe : busWe w with
  | true =>
    obtain ⟨hwf, henc⟩ := encode_decodeWrite (busIfc w) (busWdata w) ha
    refine ⟨hwf, henc.trans ?_⟩
    rw [if_pos rfl, busWrite, ← hwe, busWord_fields]
  | false => exact encode_decodeRead (busIfc w) ha

/-- Settles O3: each of the twelve words decodes by computation. -/
theorem wordsWrittenOutInTheSpecDecode : Obligations.WordsWrittenOutInTheSpecDecode := by
  unfold Obligations.WordsWrittenOutInTheSpecDecode
  and_intros <;> rfl

/-- Settles O4: the decoder's error is the name under which the step refuses. -/
theorem whatIsNoStimulusIsRefused : Obligations.WhatIsNoStimulusIsRefused := by
  refine fun s inp rest hin => ⟨fun w hnarrow => ?narrow, fun w hw hoff => ?misaligned, fun code ops hevt hcode => ?event⟩
  case narrow =>
    refine step_of_decode_error (e := .notWordWide) hin ?_
    rcases hnarrow with h | h <;> rw [h] <;> rfl
  case misaligned => exact step_of_decode_error hin (hw ▸ decode_misaligned hoff)
  case event => exact step_of_decode_error hin (hevt ▸ decodeEvt_of_no_event ops hcode)

/-- Settles O5: `beginReaction` prepares the state in which the decoded instruction runs. -/
theorem stepRunsTheDecodedInstruction : Obligations.StepRunsTheDecodedInstruction :=
  ⟨fun _ _ _ _ hin hd => step_of_decode hin hd, fun _ hnil => step_of_nil hnil⟩

end Sys2Proof.Proofs
end

section
/-! The reads (44_register_frontend.md sections 2 to 6): the value of each, their one table (R175), and what they show of the two slots (R258). -/

namespace Sys2Proof.Machine

/-! ### The values -/

/-- R8: a zero-extended value is the value below zeros. -/
theorem zeroExtend_eq_append {k : Nat} (m : Nat) (x : BitVec k) : x.zeroExtend (m + k) = 0#m ++ x := by
  apply BitVec.eq_of_getLsbD_eq
  intro i hi
  rw [BitVec.zeroExtend, BitVec.getLsbD_setWidth, BitVec.getLsbD_append, BitVec.getLsbD_zero]
  by_cases h : i < k
  · simp [h, hi]
  · simp [h, BitVec.getLsbD_of_ge x i (Nat.le_of_not_lt h)]

theorem bit32_eq (b : Bool) : bit32 b = if b then 1#32 else 0#32 := by
  cases b <;> rfl

/-- R186: the write-enable as a reader sees it. -/
theorem bit32_transRegwen (s : State) (req : Requester) :
    bit32 (s.transRegwen req) = if s.owner = some req ∧ s.fsm = .idle then 1#32 else 0#32 := by
  rw [bit32_eq]
  simp only [transRegwen_iff]

/-- R184: the claim register as a reader sees it. -/
theorem claimValue_eq (req : Requester) (s : State) :
    claimValue req s = if s.owner = some req then 0x96#32 else 0x69#32 := by
  unfold claimValue
  split <;> rfl

/-- R190: the two bits of the control register. -/
theorem ctrlValue_eq (s : State) :
    ctrlValue s = (if s.ctrl.volatileRawUnlock then 2#32 else 0#32) + (if s.ctrl.extClockEn then 1#32 else 0#32) := by
  unfold ctrlValue
  cases s.ctrl.volatileRawUnlock <;> cases s.ctrl.extClockEn <;> rfl

/-- R67: the index repeated six times is the index times 0x02108421. -/
theorem encIdx_eq (l : LcState) : encIdx l = BitVec.ofNat 32 (l.idx * 0x02108421) := by
  cases l <;> rfl

/-! ### The replies -/

theorem reply_eq {s : State} {v w : Word} (h : v = w) :
    (Host.Outcome.next (s.reply v) : Result) = .next { s with rdata := some w } := by
  rw [h]
  rfl

theorem replyView_of_some {view : Option Word} {v : Word} (s : State) (w : Word) (h : view = some v) :
    replyView view w s = s.reply w := by
  rw [h]
  rfl

theorem replyView_of_none {view : Option Word} (s : State) (w : Word) (h : view = none) :
    replyView view w s = s.drawn.reply w := by
  rw [h]
  rfl

/-- R202: LC_STATE where its view has a value. -/
theorem exec_rdLcState_of_some (req : Requester) {s : State} {v : Word} (h : encView s.lcStateView = some v) :
    exec (.rdLcState req) s = .next { s with rdata := some v } := by
  have hval : lcStateValue s = v := by
    unfold lcStateValue
    rw [h]
  exact (congrArg _ (replyView_of_some s _ h)).trans (reply_eq hval)

/-- R203: LC_TRANSITION_CNT where its view has a value. -/
theorem exec_rdLcTransitionCnt_of_some (req : Requester) {s : State} {v : Word} (h : s.cntView = some v) :
    exec (.rdLcTransitionCnt req) s = .next { s with rdata := some v } := by
  have hval : lcCntValue s = v := by
    unfold lcCntValue
    rw [h]
  exact (congrArg _ (replyView_of_some s _ h)).trans (reply_eq hval)

/-- R204: LC_ID_STATE where its view has a value. -/
theorem exec_rdLcIdState_of_some (req : Requester) {s : State} {v : Word} (h : s.idView = some v) :
    exec (.rdLcIdState req) s = .next { s with rdata := some v } := by
  have hval : lcIdValue s = v := by
    unfold lcIdValue
    rw [h]
  exact (congrArg _ (replyView_of_some s _ h)).trans (reply_eq hval)

/-- R287: LC_STATE where its view has none. -/
theorem exec_rdLcState_of_none (req : Requester) {s : State} (h : encView s.lcStateView = none) :
    exec (.rdLcState req) s =
      .next { s with rdata := some (0#2 ++ Config.freeLcState s.freeCtr), freeCtr := s.freeCtr + 1 } := by
  have hval : lcStateValue s = 0#2 ++ Config.freeLcState s.freeCtr := by
    unfold lcStateValue
    rw [h]
    exact zeroExtend_eq_append 2 _
  exact (congrArg _ (replyView_of_none s _ h)).trans (reply_eq hval)

/-- R287: LC_TRANSITION_CNT where its view has none. -/
theorem exec_rdLcTransitionCnt_of_none (req : Requester) {s : State} (h : s.cntView = none) :
    exec (.rdLcTransitionCnt req) s =
      .next { s with rdata := some (0#27 ++ Config.freeLcCnt s.freeCtr), freeCtr := s.freeCtr + 1 } := by
  have hval : lcCntValue s = 0#27 ++ Config.freeLcCnt s.freeCtr := by
    unfold lcCntValue
    rw [h]
    exact zeroExtend_eq_append 27 _
  exact (congrArg _ (replyView_of_none s _ h)).trans (reply_eq hval)

/-- R287: LC_ID_STATE where its view has none. -/
theorem exec_rdLcIdState_of_none (req : Requester) {s : State} (h : s.idView = none) :
    exec (.rdLcIdState req) s =
      .next { s with rdata := some (Config.freeIdState s.freeCtr), freeCtr := s.freeCtr + 1 } := by
  have hval : lcIdValue s = Config.freeIdState s.freeCtr := by
    unfold lcIdValue
    rw [h]
  exact (congrArg _ (replyView_of_none s _ h)).trans (reply_eq hval)

/-! ### The views (R30) -/

/-- The FSM states in which LC_STATE shows `lc_state` itself: neither terminal nor POST_TRANS nor RESET. -/
theorem encView_of_shown {s : State} (hterm : s.fsm.terminal = false) (hpost : s.fsm ≠ .postTrans)
    (hreset : s.fsm ≠ .reset) :
    (∀ l, s.lcState = .real l → encView s.lcStateView = some (encIdx l)) ∧
    (s.lcState = .lcsInvalid → encView s.lcStateView = some 0x2F7BDEF7#32) := by
  unfold State.lcStateView
  cases hf : s.fsm with
  | postTrans => exact absurd hf hpost
  | reset => exact absurd hf hreset
  | escalate | invalid | scrap => rw [hf] at hterm; cases hterm
  | idle | clkMux | cntIncr | cntProg | transCheck | tokenHash | tokenCheck | transProg =>
    exact ⟨fun l hl => by rw [hl]; rfl, fun hl => by rw [hl]; rfl⟩

theorem encView_of_postTrans {s : State} (hf : s.fsm = .postTrans) : encView s.lcStateView = some 0x2B5AD6B5#32 := by
  unfold State.lcStateView
  rw [hf]
  rfl

theorem encView_of_escalate {s : State} (hf : s.fsm = .escalate) : encView s.lcStateView = some 0x2D6B5AD6#32 := by
  unfold State.lcStateView
  rw [hf]
  rfl

theorem encView_of_invalid {s : State} (hf : s.fsm = .invalid) : encView s.lcStateView = some 0x2F7BDEF7#32 := by
  unfold State.lcStateView
  rw [hf]
  rfl

theorem encView_of_scrap {s : State} (hf : s.fsm = .scrap) : encView s.lcStateView = some 0x294A5294#32 := by
  unfold State.lcStateView
  rw [hf]
  rfl

theorem encView_of_reset {s : State} (hf : s.fsm = .reset) : encView s.lcStateView = none := by
  unfold State.lcStateView
  rw [hf]
  rfl

theorem loaded_iff (s : State) : s.loaded = true ↔ s.fsm ≠ .reset ∧ s.status.initialized = true := by
  simp [State.loaded]

theorem cntView_of_loaded {s : State} (h : s.loaded = true) :
    (∀ n, s.lcCnt = .count n → s.cntView = some (BitVec.ofNat 32 n.val)) ∧
    (s.lcCnt = .cntInvalid → s.cntView = some 31#32) := by
  unfold State.cntView
  rw [if_pos h]
  exact ⟨fun n hn => by rw [hn], fun hinv => by rw [hinv]⟩

theorem idView_of_loaded {s : State} (h : s.loaded = true) : s.idView = some (idCode s.idState) := if_pos h

/-! ### The one table (R175) -/

/-- R211: past the window the table holds 0. -/
theorem regRead_of_ge (c : Config) (s : State) (req : Requester) {off : BitVec 8} (h : 0x90 ≤ off.toNat) :
    regRead c s req off = 0#32 := by
  unfold regRead
  split
  case h_18 =>
    rw [dif_neg (by omega), dif_neg (by omega)]
  all_goals omega

/-- What O12 says of one read: the value `v`, and at most the diagnostics and the counter of free values besides. -/
def Reads (r : Result) (s : State) (v : Word) : Prop :=
  ∃ dg n, r = .next { s with rdata := some v, diag := dg, freeCtr := n }

theorem Reads.of_reply {s : State} {v w : Word} (h : v = w) : Reads (.next (s.reply v)) s w :=
  ⟨s.diag, s.freeCtr, reply_eq h⟩

theorem Reads.of_guestErrorRead {s : State} {w : Word} (h : 0#32 = w) : Reads (.next (guestErrorRead s)) s w :=
  ⟨_, s.freeCtr, reply_eq h⟩

theorem Reads.of_replyView {s : State} {view : Option Word} {v w : Word} (h : v = w) :
    Reads (.next (replyView view v s)) s w := by
  rcases replyView_cases view v s with hv | hv <;> rw [hv]
  · exact .of_reply h
  · exact ⟨s.diag, s.freeCtr + 1, reply_eq h⟩

/-- R175: the 43 meanings of the reads are the one table. -/
theorem exec_decodeRead (req : Requester) (off : BitVec 8) (s : State) (ha : offAligned off = true) :
    Reads (exec (decodeRead req off) s) s (regRead device s req off) := by
  by_cases hge : 0x90 ≤ off.toNat
  · have hval := (regRead_of_ge device s req hge).symm
    rw [decodeRead_of_ge req hge]
    split_ifs
    · exact .of_guestErrorRead hval
    · exact .of_guestErrorRead hval
    · exact .of_guestErrorRead hval
  · have hmod := (offAligned_iff off).1 ha
    unfold decodeRead
    split
    case h_37 =>
      simp only [imp_false] at *
      omega
    case h_4 h => exact .of_reply ((claimValue_eq req s).trans (congrArg (regRead device s req) (ofNat_of_toNat_eq h)))
    case h_13 h | h_14 h | h_36 h => exact .of_guestErrorRead (congrArg (regRead device s req) (ofNat_of_toNat_eq h))
    case h_15 h | h_16 h | h_17 h => exact .of_replyView (congrArg (regRead device s req) (ofNat_of_toNat_eq h))
    all_goals
      rename_i h
      exact .of_reply (congrArg (regRead device s req) (ofNat_of_toNat_eq h))

/-! ### What a requester sees (R258) -/

theorem slot_setSlot_other (s : State) (req : Requester) (v : Slot) : (s.setSlot req.other v).slot req = s.slot req := by
  cases req <;> rfl

theorem reply_setSlot (s : State) (req : Requester) (v : Slot) (w : Word) :
    (s.setSlot req v).reply w = (s.reply w).setSlot req v := by
  cases req <;> rfl

theorem replyView_setSlot (view : Option Word) (s : State) (req : Requester) (v : Slot) (w : Word) :
    replyView view w (s.setSlot req v) = (replyView view w s).setSlot req v := by
  cases view <;> cases req <;> rfl

/-- R258: the reaction to a read, and that to the same read with the OTHER slot's content replaced. -/
def BlindTo (i : Instr) (req : Requester) (s : State) (v : Slot) : Prop :=
  ∃ t, exec i s = .next t ∧ exec i (s.setSlot req.other v) = .next (t.setSlot req.other v)

/-- A reply whose value is the same in both states. -/
theorem BlindTo.of_reply {i : Instr} {req : Requester} {s : State} {v : Slot} (val : State → Word)
    (hexec : ∀ s, exec i s = .next (s.reply (val s))) (hval : val (s.setSlot req.other v) = val s) :
    BlindTo i req s v :=
  ⟨_, hexec s, by rw [hexec, hval, reply_setSlot]⟩

/-- The own slot is no other's. -/
theorem BlindTo.of_slot {i : Instr} {req : Requester} {s : State} {v : Slot} (val : Slot → Word)
    (hexec : ∀ s, exec i s = .next (s.reply (val (s.slot req)))) : BlindTo i req s v :=
  .of_reply (fun s => val (s.slot req)) hexec (congrArg val (slot_setSlot_other s req v))

/-- Every read returns a value that the other requester's slot has no part in. -/
theorem blindTo_of_isRead {i : Instr} {req : Requester} (s : State) (v : Slot) (hread : isRead i = true)
    (hreq : stimulusReq i = some req) : BlindTo i req s v := by
  cases i with
  | rdTransitionToken0 r => cases (stimulusReq_read rfl).symm.trans hreq; exact .of_slot (·.token 0) fun _ => rfl
  | rdTransitionToken1 r => cases (stimulusReq_read rfl).symm.trans hreq; exact .of_slot (·.token 1) fun _ => rfl
  | rdTransitionToken2 r => cases (stimulusReq_read rfl).symm.trans hreq; exact .of_slot (·.token 2) fun _ => rfl
  | rdTransitionToken3 r => cases (stimulusReq_read rfl).symm.trans hreq; exact .of_slot (·.token 3) fun _ => rfl
  | rdTransitionTarget r => cases (stimulusReq_read rfl).symm.trans hreq; exact .of_slot (·.target) fun _ => rfl
  | rdLcState r | rdLcTransitionCnt r | rdLcIdState r =>
    refine ⟨_, rfl, Eq.trans ?_ (congrArg _ (replyView_setSlot _ s req.other v _))⟩
    cases req <;> rfl
  | rdUnmapped30 | rdUnmapped34 | rdOutOfRange8C8C | rdOutOfRange909C | rdOutOfRangeA0Bc | rdOutOfRangeC0Fc
  | rdAlertTest | rdStatus | rdClaimTransitionIfRegwen | rdClaimTransitionIf | rdTransitionRegwen | rdTransitionCmd
  | rdTransitionCtrl | rdHwRevision0 | rdHwRevision1
  | rdDeviceId0 | rdDeviceId1 | rdDeviceId2 | rdDeviceId3 | rdDeviceId4 | rdDeviceId5 | rdDeviceId6 | rdDeviceId7
  | rdManufState0 | rdManufState1 | rdManufState2 | rdManufState3 | rdManufState4 | rdManufState5 | rdManufState6
  | rdManufState7 =>
    refine ⟨_, rfl, ?_⟩
    cases req <;> rfl
  | reset | init | otpAck | hashRsp | escalate => cases hread
  | _ => exact absurd hread (Bool.eq_false_iff.1 (isRead_of_busWrite rfl))

end Sys2Proof.Machine

namespace Sys2Proof.Proofs

open Machine

/-- Settles O12: the meanings of the reads are the one table. -/
theorem readsAgreeWithTheReadTable : Obligations.ReadsAgreeWithTheReadTable := exec_decodeRead

/-- Settles O13: a read looks at the reader's own slot or at no slot. -/
theorem readsShowNothingOfTheOtherSlot : Obligations.ReadsShowNothingOfTheOtherSlot :=
  fun _ _ s v hread hreq => blindTo_of_isRead s v hread hreq

/-- Settles O6: the constants by definition; the two enables and the claim register by their values. -/
theorem readsOfConstantsAndClaimRegistersComplete : Obligations.ReadsOfConstantsAndClaimRegistersComplete := by
  intro req s
  exact ⟨rfl, rfl, rfl, reply_eq (zeroExtend_eq_append 24 device.revisionId), rfl, rfl, rfl, rfl, rfl, rfl, rfl, rfl,
    rfl, rfl, rfl, rfl, rfl, rfl, rfl, rfl, reply_eq (bit32_eq s.claimRegwen), reply_eq (claimValue_eq req s),
    reply_eq (bit32_transRegwen s req)⟩

/-- Settles O8: the control register's two bits as a sum; the tokens and the target are the slot's own words. -/
theorem readsOfTheTransitionRegistersComplete : Obligations.ReadsOfTheTransitionRegistersComplete := by
  refine fun s => ⟨fun req => reply_eq (ctrlValue_eq s), ?_⟩
  and_intros <;> rfl

/-- Settles O9: the view of each FSM state. -/
theorem readOfLcStateReturnsTheView : Obligations.ReadOfLcStateReturnsTheView := by
  refine fun req s => ⟨fun hf => exec_rdLcState_of_some req (encView_of_postTrans hf),
    fun hf => exec_rdLcState_of_some req (encView_of_escalate hf),
    fun hf => exec_rdLcState_of_some req (encView_of_invalid hf),
    fun hf => exec_rdLcState_of_some req (encView_of_scrap hf),
    fun hterm hpost hreset => ?shown, fun hf => exec_rdLcState_of_none req (encView_of_reset hf)⟩
  case shown =>
    obtain ⟨hreal, hinvalid⟩ := encView_of_shown hterm hpost hreset
    exact ⟨fun l hl => encIdx_eq l ▸ exec_rdLcState_of_some req (hreal l hl),
      fun hl => exec_rdLcState_of_some req (hinvalid hl)⟩

/-- Settles O10: the views of a loaded device, and their absence. -/
theorem readsOfCountAndIdReturnTheViews : Obligations.ReadsOfCountAndIdReturnTheViews := by
  refine fun req s => ⟨fun hreset hinit => ?loaded, fun hnot => ?free⟩
  case loaded =>
    have hloaded := (loaded_iff s).2 ⟨hreset, hinit⟩
    obtain ⟨hcount, hinvalid⟩ := cntView_of_loaded hloaded
    have hid {d : IdState} (h : s.idState = d) :
        exec (.rdLcIdState req) s = .next { s with rdata := some (idCode d) } :=
      exec_rdLcIdState_of_some req (h ▸ idView_of_loaded hloaded)
    exact ⟨fun n hn => exec_rdLcTransitionCnt_of_some req (hcount n hn),
      fun hinv => exec_rdLcTransitionCnt_of_some req (hinvalid hinv), hid, hid, hid⟩
  case free =>
    have hloaded : ¬ s.loaded = true := by
      rw [loaded_iff]
      rcases hnot with h | h <;> simp [h]
    exact ⟨exec_rdLcTransitionCnt_of_none req (if_neg hloaded), exec_rdLcIdState_of_none req (if_neg hloaded)⟩

/-- Settles O11: the meaning of each of the six reads is the guest error of a read. -/
theorem readsWhereNoRegisterIsReturnZero : Obligations.ReadsWhereNoRegisterIsReturnZero :=
  fun _ _ s => ⟨guestErrorRead s, rfl, rfl, rfl, rfl, rfl, rfl, rfl⟩

end Sys2Proof.Proofs
end

section
/-! The writes (44_register_frontend.md sections 2 to 6): their one table (R176), the claim registers, and the gated registers with the slots. -/

namespace Sys2Proof.Machine

/-! ### The one table (R176) -/

/-- R183: LOCK_CLAIM is the written 0. -/
theorem claimRegwenWrite_of_zero (req : Requester) {w : Word} (s : State) (hw : w.getLsbD 0 = false) :
    claimRegwenWrite req w s = if s.transRegwen req then { s with claimRegwen := false } else guestError s :=
  if_neg (Bool.eq_false_iff.1 hw)

/-- R70: a claim's word. -/
theorem claimWrite_of_true (req : Requester) {w : Word} (s : State) (hw : w.extractLsb' 0 8 = 0x96#8) :
    claimWrite req w s = if s.claimRegwen then (claim req s).2 else guestError s := by
  unfold claimWrite
  rw [if_pos (show w.extractLsb' 0 8 = mubi8True from hw)]

/-- R70: every other word releases. -/
theorem claimWrite_of_not_true (req : Requester) {w : Word} (s : State) (hw : w.extractLsb' 0 8 ≠ 0x96#8) :
    claimWrite req w s = if s.claimRegwen then release req s else guestError s := by
  unfold claimWrite
  rw [if_neg (show w.extractLsb' 0 8 ≠ mubi8True from hw)]

/-- The write of the claim write-enable, whichever constructor its word decodes to. -/
theorem exec_decodeWrite_08 (req : Requester) (w : Word) (s : State) :
    exec (if w.getLsbD 0 then .wrClaimTransitionIfRegwen req w else .lockClaim req (w.extractLsb' 1 31)) s =
      .next (claimRegwenWrite req w s) := by
  cases hb : w.getLsbD 0 with
  | true => rfl
  | false => exact congrArg _ (claimRegwenWrite_of_zero req s hb).symm

/-- The write of the claim register, whichever constructor its word decodes to. -/
theorem exec_decodeWrite_0c (req : Requester) (w : Word) (s : State) :
    exec (if w.extractLsb' 0 8 = 0x96#8 then .claim req (w.extractLsb' 8 24)
      else if w.extractLsb' 0 8 = 0x69#8 then .release req (w.extractLsb' 8 24)
      else .wrClaimTransitionIf req w) s = .next (claimWrite req w s) := by
  split_ifs with h96 h69
  · exact congrArg _ (claimWrite_of_true req s h96).symm
  · exact congrArg _ (claimWrite_of_not_true req s h96).symm
  · rfl

/-- The write of the command register, whichever constructor its word decodes to. -/
theorem exec_decodeWrite_14 (req : Requester) (w : Word) (s : State) :
    exec (if w.getLsbD 0 then .start req (w.extractLsb' 1 31) else .wrTransitionCmd req w) s =
      if w.getLsbD 0 then start device req s else .next s := by
  cases hb : w.getLsbD 0 with
  | true => rfl
  | false => exact if_neg (Bool.eq_false_iff.1 hb)

/-- R176: the 48 meanings of the writes are the one table; where the table has no row of its own, and at the offsets that are not aligned, it is the guest
error. -/
theorem exec_decodeWrite (req : Requester) (off : BitVec 8) (w : Word) (s : State) :
    exec (decodeWrite req off w) s = regWrite device s req off w := by
  have row {n : Nat} {r : Result} (h : off.toNat = n) (hr : regWrite device s req (BitVec.ofNat 8 n) w = r) :
      r = regWrite device s req off w := by rw [← hr, ofNat_of_toNat_eq h]
  unfold decodeWrite
  split
  case h_3 h => exact row h (exec_decodeWrite_08 req w s).symm
  case h_4 h => exact row h (exec_decodeWrite_0c req w s).symm
  case h_6 h => exact row h (exec_decodeWrite_14 req w s).symm
  case h_37 =>
    have hrow : regWrite device s req off w = .next (guestError s) := by
      unfold regWrite
      split
      case h_11 => rfl
      all_goals contradiction
    rw [hrow]
    split_ifs <;> rfl
  all_goals
    rename_i h
    exact row h rfl

/-! ### The claim registers (R183, R185) -/

theorem exec_wrClaimTransitionIfRegwen_of_zero (req : Requester) {w : Word} (hi : BitVec 31) (s : State)
    (hw : w.getLsbD 0 = false) : exec (.wrClaimTransitionIfRegwen req w) s = exec (.lockClaim req hi) s :=
  congrArg _ (claimRegwenWrite_of_zero req s hw)

/-- R185: with the claim write-enable cleared, nothing reaches the mutex. -/
theorem exec_claimRegister_of_locked {req : Requester} {i : Instr} {s : State} (hr : s.claimRegwen = false)
    (hi : (∃ hi, i = .claim req hi) ∨ (∃ hi, i = .release req hi) ∨ (∃ w, i = .wrClaimTransitionIf req w)) :
    exec i s = .next (guestError s) := by
  have hno : ¬ s.claimRegwen = true := Bool.eq_false_iff.1 hr
  rcases hi with ⟨_, rfl⟩ | ⟨_, rfl⟩ | ⟨_, rfl⟩ <;> exact congrArg _ (if_neg hno)

theorem claimReq_of_word {req : Requester} {i : Instr}
    (hi : (∃ hi, i = .claim req hi) ∨ (∃ w, i = .wrClaimTransitionIf req w ∧ w.extractLsb' 0 8 = 0x96#8)) :
    claimReq i = some req := by
  rcases hi with ⟨_, rfl⟩ | ⟨w, rfl, hw⟩
  · rfl
  · exact if_pos hw

theorem releaseReq_of_word {req : Requester} {i : Instr}
    (hi : (∃ hi, i = .release req hi) ∨ (∃ w, i = .wrClaimTransitionIf req w ∧ w.extractLsb' 0 8 ≠ 0x96#8)) :
    releaseReq i = some req := by
  rcases hi with ⟨_, rfl⟩ | ⟨w, rfl, hw⟩
  · rfl
  · exact if_neg hw

/-! ### The gated registers (R191, R193, R201) -/

/-- The stored part of a target (R201). -/
theorem low30_eq_and (w : Word) : (w.extractLsb' 0 30).zeroExtend 32 = w &&& 0x3FFFFFFF#32 := by
  have hmask : (0x3FFFFFFF#32 : Word) = (BitVec.allOnes 30).setWidth 32 := by decide
  apply BitVec.eq_of_getLsbD_eq
  intro i hi
  simp only [hmask, BitVec.zeroExtend, BitVec.getLsbD_setWidth, BitVec.getLsbD_extractLsb', BitVec.getLsbD_and,
    BitVec.getLsbD_allOnes, hi, decide_true, Bool.true_and, Nat.zero_add]
  exact Bool.and_comm _ _

theorem targetWrite_of_regwen {req : Requester} (w : Word) {s : State} (hg : s.transRegwen req = true) :
    targetWrite req w s = s.setSlot req { s.slot req with target := w &&& 0x3FFFFFFF#32 } := by
  rw [targetWrite, if_pos hg, low30_eq_and]

/-- The six gated writes with the gate open. -/
theorem exec_gated_of_regwen {req : Requester} (w : Word) {s : State} (hg : s.transRegwen req = true) :
    exec (.wrTransitionCtrl req w) s = .next { s with ctrl := ⟨w.getLsbD 0, w.getLsbD 1⟩ } ∧
    exec (.wrTransitionToken0 req w) s = .next (s.setSlot req { s.slot req with token0 := w }) ∧
    exec (.wrTransitionToken1 req w) s = .next (s.setSlot req { s.slot req with token1 := w }) ∧
    exec (.wrTransitionToken2 req w) s = .next (s.setSlot req { s.slot req with token2 := w }) ∧
    exec (.wrTransitionToken3 req w) s = .next (s.setSlot req { s.slot req with token3 := w }) ∧
    exec (.wrTransitionTarget req w) s = .next (s.setSlot req { s.slot req with target := w &&& 0x3FFFFFFF#32 }) :=
  ⟨congrArg _ (if_pos hg), congrArg _ (if_pos hg), congrArg _ (if_pos hg), congrArg _ (if_pos hg), congrArg _ (if_pos hg),
    congrArg _ (targetWrite_of_regwen w hg)⟩

/-- The six gated writes with the gate closed. -/
theorem exec_gated_of_locked {req : Requester} (w : Word) {s : State} (hg : ¬ s.transRegwen req = true) :
    exec (.wrTransitionCtrl req w) s = .next (guestError s) ∧
    exec (.wrTransitionToken0 req w) s = .next (guestError s) ∧
    exec (.wrTransitionToken1 req w) s = .next (guestError s) ∧
    exec (.wrTransitionToken2 req w) s = .next (guestError s) ∧
    exec (.wrTransitionToken3 req w) s = .next (guestError s) ∧
    exec (.wrTransitionTarget req w) s = .next (guestError s) :=
  ⟨congrArg _ (if_neg hg), congrArg _ (if_neg hg), congrArg _ (if_neg hg), congrArg _ (if_neg hg), congrArg _ (if_neg hg),
    congrArg _ (if_neg hg)⟩

/-! ### The slots (R14) -/

theorem start_slot {r req : Requester} {s t : State} (hg : s.transRegwen r = true) (h : start device r s = .next t) :
    t.slot req = s.slot req := by
  cases start_end hg h <;> subst t <;> exact slot_congr rfl rfl req

theorem otpAck_slot {ok : Bool} {req : Requester} {s t : State} (h : otpAck device ok s = .next t) :
    t.slot req = s.slot req := by
  cases otpAck_end h <;> subst t <;> exact slot_congr rfl rfl req

theorem hashRsp_slot {a b : Token} {d : Bool} {req : Requester} {s t : State} (h : hashRsp device a b d s = .next t) :
    t.slot req = s.slot req := by
  cases hashRsp_end h <;> subst t <;> exact slot_congr rfl rfl req

theorem initReaction_slot (c : Config) (info : OtpInfo) (fr : Bool) (s : State) (req : Requester) :
    (initReaction c info fr s).slot req = s.slot req := by
  rcases initReaction_cases c info fr s with ⟨_, h⟩ | ⟨_, h⟩ <;> rw [h]
  exact slot_congr rfl rfl req

theorem eq_or_eq_other (r req : Requester) : r = req ∨ req = r.other := by
  cases r <;> cases req <;> simp [Requester.other]

end Sys2Proof.Machine

namespace Sys2Proof.Proofs

open Machine

/-- Settles O20: the meanings of the writes are the one table, the pseudo-stimuli's among them. -/
theorem writesAgreeWithTheWriteTable : Obligations.WritesAgreeWithTheWriteTable :=
  fun req off w s _ => exec_decodeWrite req off w s

/-- Settles O22: of the twelve effects only a gated write to the own slot and RESET write a slot. -/
theorem slotsAreWrittenOnlyByTheirOwner : Obligations.SlotsAreWrittenOnlyByTheirOwner := by
  intro i s t req h hne
  cases exec_effect h with
  | quiet _ _ _ ht | released _ _ _ _ ht | locked _ _ _ ht | control _ _ _ _ ht | escalated _ ht =>
    subst ht
    exact absurd (slot_congr rfl rfl req) hne
  | claimed r _ _ _ ht =>
    subst ht
    exact absurd (slot_congr (rearm_slotSw { s with owner := some r }) (rearm_slotDbg { s with owner := some r }) req) hne
  | slotWritten r v hi hg _ ht =>
    rcases eq_or_eq_other r req with rfl | rfl
    · exact .inr ⟨hi, (transRegwen_iff s r).1 hg⟩
    · exact absurd (ht ▸ setSlot_slot_other s r v) hne
  | started _ _ hg ht => exact absurd (start_slot hg ht) hne
  | acknowledged _ _ ht => exact absurd (otpAck_slot ht) hne
  | responded _ _ _ _ ht => exact absurd (hashRsp_slot ht) hne
  | initialized info fr _ ht => exact absurd (ht ▸ initReaction_slot device info fr s req) hne
  | wasReset hi _ => exact .inl hi

/-- Settles O15: each meaning is the guest error, and that of ALERT_TEST nothing at all. -/
theorem writesWithoutAnyEffectComplete : Obligations.WritesWithoutAnyEffectComplete :=
  fun _ _ _ s => ⟨rfl, guestError s, guestError_eq s, rfl, rfl, rfl, rfl, rfl, rfl, rfl, rfl⟩

/-- Settles O16: a written 0 is LOCK_CLAIM, whose guard is the owner in IDLE. -/
theorem claimEnableWriteFollowsItsRule : Obligations.ClaimEnableWriteFollowsItsRule := by
  refine fun req w hi s => ⟨exec_wrClaimTransitionIfRegwen_of_one s, fun hgate => ?opened, fun hgate => ?closed⟩
  case opened =>
    have hlock : exec (.lockClaim req hi) s = .next { s with claimRegwen := false } :=
      congrArg _ (if_pos ((transRegwen_iff s req).2 hgate))
    exact ⟨fun hw => (exec_wrClaimTransitionIfRegwen_of_zero req hi s hw).trans hlock, hlock⟩
  case closed =>
    have hlock : exec (.lockClaim req hi) s = .next (guestError s) :=
      congrArg _ (if_neg (mt (transRegwen_iff s req).1 hgate))
    exact ⟨fun hw => (exec_wrClaimTransitionIfRegwen_of_zero req hi s hw).trans hlock, hlock⟩

/-- Settles O18: under the write-enable a claim's word is `claim(req)` and any other `release(req)`. -/
theorem claimRegisterWriteFollowsItsRule : Obligations.ClaimRegisterWriteFollowsItsRule := by
  refine fun req i s => ⟨exec_claimRegister_of_locked, fun hr hword => ?claim, fun hr hword => ?release⟩
  case claim =>
    have hexec := exec_of_claimReq (claimReq_of_word hword) hr
    refine ⟨fun hfree => ?_, fun howned => ?_⟩
    · rw [hexec, claim_of_free req hfree, rearm_eq]
    · obtain ⟨r, ho⟩ := Option.ne_none_iff_exists'.1 howned
      rw [hexec, claim_of_owned req ho]
  case release =>
    have hi := releaseReq_of_word hword
    exact ⟨fun ho => (exec_of_releaseReq hi hr).trans (congrArg _ (release_of_owner ho)), exec_release_of_not_owner hi hr⟩

/-- Settles O19: the gate is the owner in IDLE; with it open each write stores in the writer's own slot. -/
theorem gatedWritesFollowTheirRules : Obligations.GatedWritesFollowTheirRules := by
  refine fun w s => ⟨fun req ho hf => ?ctrl, fun ho hf => ?sw, fun ho hf => ?dbg, fun req hgate => ?closed⟩
  case ctrl => exact (exec_gated_of_regwen w ((transRegwen_iff s req).2 ⟨ho, hf⟩)).1
  case sw => exact (exec_gated_of_regwen w ((transRegwen_iff s .sw).2 ⟨ho, hf⟩)).2
  case dbg => exact (exec_gated_of_regwen w ((transRegwen_iff s .dbg).2 ⟨ho, hf⟩)).2
  case closed => exact ⟨guestError s, guestError_eq s, exec_gated_of_locked w (mt (transRegwen_iff s req).1 hgate)⟩

/-- Settles O25: the command register runs `start(req)` or nothing, and `start` has the owner in IDLE as its guard. -/
theorem startCommandByANonOwnerIsIgnored : Obligations.StartCommandByANonOwnerIsIgnored :=
  fun _ _ _ s => ⟨exec_wrTransitionCmd_of_zero s, fun hw => if_pos hw,
    fun hno => start_of_locked device (not_and_or.2 hno)⟩

end Sys2Proof.Proofs
end

section
/-! Starting a transition (R141 to R145), an equation for each outcome of its stages. -/

namespace Sys2Proof.Machine

theorem commandReq_of_word {req : Requester} {i : Instr}
    (hi : (∃ hi, i = .start req hi) ∨ (∃ w, i = .wrTransitionCmd req w ∧ w.getLsbD 0 = true)) :
    commandReq i = some req := by
  rcases hi with ⟨_, rfl⟩ | ⟨w, rfl, hw⟩
  · rfl
  · exact if_pos hw

theorem programReq_of_accepted (a b : EncString) {s : State} (ha : s.otpAccept = true) :
    programReq a b s = { s.emit (.programReq a b) with otpPending := true } := if_pos ha

theorem programReq_of_busy (a b : EncString) {s : State} (ha : s.otpAccept = false) :
    programReq a b s = raiseOp .otp (s.emit (.programReq a b)) := if_neg (Bool.eq_false_iff.1 ha)

/-! ### The volatile path (R141) -/

theorem volatileCond_iff (tgt : Option LcState) (s : State) :
    volatileCond tgt s = true ↔
      s.ctrl.volatileRawUnlock = true ∧ s.tokens.rawUnlock.valid = true ∧ s.lcState = .real .raw ∧
        tgt = some .testUnlocked0 := by
  simp [volatileCond, and_assoc]

theorem volatileCond_of_disabled (tgt : Option LcState) {s : State} (h : s.ctrl.volatileRawUnlock = false) :
    volatileCond tgt s = false := by
  simp [volatileCond, h]

/-- R141: the slot's token is compared with the stored hash itself. -/
theorem matchToken_rawUnlock (ts : TokenStore) (d : Token) (hv : ts.rawUnlock.valid = true) :
    matchToken ts d .rawUnlock = true ↔ d = ts.rawUnlock.hashed := by
  rw [matchToken_iff_hashed_eq]
  exact ⟨fun ⟨_, he, _, hd⟩ => Option.some.inj he ▸ hd, fun hd => ⟨_, rfl, hv, hd⟩⟩

/-- An accepted start on the volatile path. -/
theorem start_of_volatile {req : Requester} {s : State} (hg : s.transRegwen req = true)
    (hv : volatileCond (decodeTarget (s.slot req).target) s = true) :
    start device req s = .next (volatileUnlock req { s with xactReq := req }) :=
  (start_of_regwen device hg).trans (if_pos hv)

theorem volatileUnlock_of_match {req : Requester} {s : State}
    (hm : matchToken s.tokens (s.slot req).assembled .rawUnlock = true) :
    volatileUnlock req s =
      { s with
        lcState := .real .testUnlocked0
        volUnlock := true
        status := { s.status with transitionSuccessful := true } } := if_pos hm

/-- A mismatch with a valid entry logs nothing (R98). -/
theorem volatileUnlock_of_mismatch {req : Requester} {s : State} (hu : s.tokens.usable .rawUnlock = true)
    (hm : ¬ matchToken s.tokens (s.slot req).assembled .rawUnlock = true) :
    volatileUnlock req s = raiseOp .token s :=
  (if_neg hm).trans (congrArg (raiseOp .token) (if_pos hu))

/-! ### The persistent path (R142 to R145) -/

/-- R144: a full count. -/
theorem cntIncr_of_full (c : Config) (tgt : Option LcState) {s : State} {n : Fin 25} (hc : s.lcCnt = .count n)
    (hn : 24 ≤ n.val) : cntIncr c tgt s = .next (raiseOp .transitionCount s) := by
  unfold cntIncr
  rw [hc]
  exact if_pos hn

/-- R144, R145: a count that can be spent. -/
theorem cntIncr_of_lt (c : Config) (tgt : Option LcState) {s : State} {l : LcState} {n : Fin 25}
    (hl : s.lcState = .real l) (hc : s.lcCnt = .count n) (hn : n.val < 24) :
    cntIncr c tgt s =
      .next (programReq (c.lcStateTable l) (c.lcCntTable (nextCount tgt n))
        { s with lcCnt := .count (nextCount tgt n), fsm := .cntProg }) := by
  unfold cntIncr cntProg
  rw [hc, hl]
  exact if_neg (Nat.not_le.2 hn)

@[simp] theorem started_lcState (req : Requester) (s : State) : (started req s).lcState = s.lcState := by rw [started_eq]
@[simp] theorem started_lcCnt (req : Requester) (s : State) : (started req s).lcCnt = s.lcCnt := by rw [started_eq]

/-- An accepted start on the persistent path. -/
theorem start_of_persistent {req : Requester} {s : State} (hg : s.transRegwen req = true)
    (hv : volatileCond (decodeTarget (s.slot req).target) s = false) :
    start device req s = cntIncr device (decodeTarget (s.slot req).target) (started req s) := by
  rcases start_cases device req s with ⟨hg', _⟩ | ⟨_, hv', _⟩ | ⟨_, _, h⟩
  · exact absurd (hg.symm.trans hg') nofun
  · exact absurd (hv.symm.trans hv') nofun
  · exact h

/-- With a real state and a valid count an accepted start has a next state (`start_end` says which). -/
theorem start_completes {req : Requester} {s : State} {l : LcState} {n : Fin 25} (hg : s.transRegwen req = true)
    (hl : s.lcState = .real l) (hc : s.lcCnt = .count n) : ∃ t, start device req s = .next t := by
  cases hv : volatileCond (decodeTarget (s.slot req).target) s with
  | true => exact ⟨_, start_of_volatile hg hv⟩
  | false =>
    have hl' : (started req s).lcState = .real l := (started_lcState req s).trans hl
    have hc' : (started req s).lcCnt = .count n := (started_lcCnt req s).trans hc
    rw [start_of_persistent hg hv]
    rcases Nat.lt_or_ge n.val 24 with hn | hn
    · exact ⟨_, cntIncr_of_lt device _ hl' hc' hn⟩
    · exact ⟨_, cntIncr_of_full device _ hc' hn⟩

end Sys2Proof.Machine

namespace Sys2Proof.Proofs

open Machine

/-- Settles O26: with the condition of R141 met, the comparison with the stored hash decides; the kind's entry is valid, so nothing is logged. -/
theorem volatileUnlockFollowsItsRule : Obligations.VolatileUnlockFollowsItsRule := by
  intro req i s hword ho hf hvol hvalid hraw htgt
  have hexec : exec i s = .next (volatileUnlock req { s with xactReq := req }) :=
    (exec_of_commandReq (commandReq_of_word hword) s).trans
      (start_of_volatile ((transRegwen_iff s req).2 ⟨ho, hf⟩) ((volatileCond_iff _ s).2 ⟨hvol, hvalid, hraw, htgt⟩))
  have hmatch := matchToken_rawUnlock s.tokens (s.slot req).assembled hvalid
  rw [hexec]
  exact ⟨fun htok => congrArg _ (volatileUnlock_of_match (hmatch.2 htok)),
    fun htok => congrArg _ (volatileUnlock_of_mismatch hvalid (mt hmatch.1 htok))⟩

/-- Settles O27: of the five ends of an accepted start the two of the volatile path are excluded, and the count and the backend's answer tell the
other three apart. -/
theorem persistentStartFollowsItsRule : Obligations.PersistentStartFollowsItsRule := by
  intro req i s l n hword ho hf hl hc hv sw st k r
  have hg := (transRegwen_iff s req).2 ⟨ho, hf⟩
  obtain ⟨t, hstart⟩ := start_completes hg hl hc
  rw [exec_of_commandReq (commandReq_of_word hword), hstart]
  cases start_end hg hstart with
  | unlocked hv' _ _ | mismatch hv' _ _ => exact absurd (hv.symm.trans hv') nofun
  | full _ hc' ht =>
    cases hc.symm.trans hc'
    exact ⟨fun _ => congrArg _ ht, fun hn => absurd hn (lt_irrefl _), fun hn => absurd hn (lt_irrefl _)⟩
  | waiting _ _ _ hc' hn hl' ha ht =>
    cases hc.symm.trans hc'
    cases hl.symm.trans hl'
    exact ⟨fun h24 => absurd h24 (ne_of_lt hn), fun _ _ => congrArg _ ht, fun _ hbusy => absurd (ha.symm.trans hbusy) nofun⟩
  | busy _ _ _ hc' hn hl' hbusy ht =>
    cases hc.symm.trans hc'
    cases hl.symm.trans hl'
    exact ⟨fun h24 => absurd h24 (ne_of_lt hn), fun _ ha => absurd (ha.symm.trans hbusy) nofun, fun _ _ => congrArg _ ht⟩

end Sys2Proof.Proofs
end

section
/-! The completions (R146 to R152, R158), an equation for each stage that waits. -/

namespace Sys2Proof.Machine

/-! ### The acknowledge -/

theorem otpAck_of_unawaited (c : Config) (ok : Bool) {s : State} (hp : s.otpPending = false) :
    otpAck c ok s = .next s := if_neg (Bool.eq_false_iff.1 hp)

section
variable (c : Config) (ok : Bool) {s : State} (hp : s.otpPending = true)
include hp

theorem otpAck_of_cntProg (hf : s.fsm = .cntProg) : otpAck c ok s = ackCntProg c ok { s with otpPending := false } := by
  unfold otpAck
  rw [if_pos hp]
  simp only [hf]

theorem otpAck_of_transProg (hf : s.fsm = .transProg) : otpAck c ok s = ackTransProg ok { s with otpPending := false } := by
  unfold otpAck
  rw [if_pos hp]
  simp only [hf]

theorem otpAck_of_escalate (hf : s.fsm = .escalate) : otpAck c ok s = .next { s with otpPending := false } := by
  unfold otpAck
  rw [if_pos hp]
  simp only [hf]

/-- R146: nowhere else is an acknowledge awaited. -/
theorem otpAck_out_of_place (h1 : s.fsm ≠ .cntProg) (h2 : s.fsm ≠ .transProg) (h3 : s.fsm ≠ .escalate) :
    otpAck c ok s = .fault .ackOutOfPlace := by
  unfold otpAck
  rw [if_pos hp]
  cases hf : s.fsm with
  | cntProg => exact absurd hf h1
  | transProg => exact absurd hf h2
  | escalate => exact absurd hf h3
  | reset | idle | clkMux | cntIncr | transCheck | tokenHash | tokenCheck | postTrans | scrap | invalid => simp only

end

/-- R152: the target is committed. -/
theorem ackTransProg_ack {s : State} {l : LcState} (ht : s.tgt = some l) :
    ackTransProg true s =
      .next { s with
        lcState := .real l
        status := { s.status with transitionSuccessful := true }
        fsm := committedFsm l } := by
  unfold ackTransProg
  rw [if_pos rfl, ht]

theorem ackTransProg_nack (s : State) : ackTransProg false s = .next (raiseOp .otp s) := rfl

/-! ### The hash response -/

/-- R151: the pair of the target and the count already programmed. -/
theorem transProg_of_target (c : Config) {s : State} {l : LcState} {n : Fin 25} (ht : s.tgt = some l)
    (hc : s.lcCnt = .count n) : transProg c s = .next (programReq (c.lcStateTable l) (c.lcCntTable n) s) := by
  unfold transProg
  rw [ht, hc]

/-- R105: no response is awaited. -/
theorem hashRsp_of_idle (c : Config) (a b : Token) (d : Bool) {s : State} (hh : s.hashState = .hIdle) :
    hashRsp c a b d s = .next s := by
  unfold hashRsp
  rw [hh]

/-- R108: `done` comes too early. -/
theorem hashRsp_early (c : Config) (a b : Token) {s : State} (hh : s.hashState = .hFirstSent) :
    hashRsp c a b true s = .refused .hashDoneMismatch := by
  unfold hashRsp
  rw [hh]
  rfl

/-- R108: `done` is missing. -/
theorem hashRsp_late (c : Config) (a b : Token) {s : State} (hh : s.hashState = .hSecondSent) :
    hashRsp c a b false s = .refused .hashDoneMismatch := by
  unfold hashRsp
  rw [hh]
  rfl

/-- R150, R151: the final response with the digest that the pair's kind asks for. -/
theorem hashRsp_of_match {s : State} (a b : Token) {f l : LcState} {n : Fin 25} {e : TokenEntry}
    (hf : s.fsm = .tokenHash) (hh : s.hashState = .hSecondSent) (hl : s.lcState = .real f) (ht : s.tgt = some l)
    (hc : s.lcCnt = .count n) (he : s.tokens.entry (device.transMatrix f l) = some e) (hv : e.valid = true)
    (hd : a ^^^ b = e.hashed) :
    hashRsp device a b true s =
      .next (programReq (device.lcStateTable l) (device.lcCntTable n)
        { s with digest := e.hashed, hashState := .hIdle, fsm := .transProg }) := by
  have hdigest : storeDigest a b s = { s with digest := e.hashed, hashState := .hIdle } := by
    rw [storeDigest, recombine_eq_xor, hd]
  have hkind : requiredTokenFor device.transMatrix s.lcState s.tgt = device.transMatrix f l := by
    rw [hl, ht]
    rfl
  have hmatch : matchToken s.tokens e.hashed (device.transMatrix f l) = true :=
    (matchToken_iff_hashed_eq _ _ _).2 ⟨e, he, hv, rfl⟩
  calc hashRsp device a b true s
      = resumeFromHash device { s with digest := e.hashed, hashState := .hIdle } := by
        rw [hashRsp_final device a b hh, if_pos hf, hdigest]
    _ = transProg device { s with digest := e.hashed, hashState := .hIdle, fsm := .transProg } :=
        resumeFromHash_of_match device hkind ((exists_entry_iff _ _).1 ⟨e, he⟩) hmatch
    _ = _ := transProg_of_target device ht hc

end Sys2Proof.Machine

namespace Sys2Proof.Proofs

open Machine

/-- Settles O29: who waits for an acknowledge is the FSM's state, who waits for a response the adapter's. -/
theorem completionsGoToTheStageThatWaits : Obligations.CompletionsGoToTheStageThatWaits :=
  fun ok a b _ _ => ⟨otpAck_of_unawaited device ok,
    fun hp => ⟨otpAck_of_escalate device ok hp, otpAck_of_cntProg device ok hp, otpAck_of_transProg device ok hp,
      otpAck_out_of_place device ok hp⟩,
    hashRsp_of_idle device a b _, fun hh hd => hd ▸ hashRsp_early device a b hh, fun hh hd => hd ▸ hashRsp_late device a b hh⟩

/-- Settles O31: the wait is ended, then the answer decides. -/
theorem stateCommitAckFollowsItsRule : Obligations.StateCommitAckFollowsItsRule := by
  refine fun s l hp hf ht => ⟨?committed, ?nack⟩
  case committed => exact (otpAck_of_transProg device true hp hf).trans (ackTransProg_ack ht)
  case nack => exact (otpAck_of_transProg device false hp hf).trans (ackTransProg_nack _)

/-- Settles O34: the right digest leads to the state program, whose answer decides. -/
theorem matchingDigestRequestsTheStateCommit : Obligations.MatchingDigestRequestsTheStateCommit := by
  intro a b s f l n e hf hh hl ht hc he hv hd
  rw [exec_hashRsp, hashRsp_of_match a b hf hh hl ht hc he hv hd]
  exact ⟨fun ha => congrArg _ (programReq_of_accepted _ _ ha), fun ha => congrArg _ (programReq_of_busy _ _ ha)⟩

end Sys2Proof.Proofs
end

section
/-! The invariant (R31): a transition's place in the live states, and that every effect of an instruction keeps it. -/

namespace Sys2Proof

open Machine

/-! ### What the invariant asks of a live state -/

theorem ne_of_live {f g : FsmState} (hf : f.live = true) (hg : g.live = false) : f ≠ g := by
  rintro rfl
  exact Bool.false_ne_true (hg.symm.trans hf)

theorem transient_of_live {f : FsmState} (hf : f.live = true) : f.transient = false := by
  cases f with
  | idle | cntProg | tokenHash | transProg | postTrans => rfl
  | reset | clkMux | cntIncr | transCheck | tokenCheck | scrap | escalate | invalid => cases hf

/-- The part of `Inv` that says where a live device stands in its transition: what it waits for, and with which operands. -/
structure Phase (t : State) : Prop where
  live : t.fsm.live = true
  unscrapped : t.lcState.unscrapped = true
  counted : t.lcCnt.valid = true
  pending : t.otpPending = true ↔ t.fsm = .cntProg ∨ t.fsm = .transProg
  hashing : t.hashState ≠ .hIdle ↔ t.fsm = .tokenHash
  latched : t.fsm = .tokenHash → t.hashReq = t.xactReq
  allowed : t.fsm = .tokenHash ∨ t.fsm = .transProg → requiredTokenFor device.transMatrix t.lcState t.tgt ≠ .invalid

section
variable {t : State} (hu : t.lcState.unscrapped = true) (hc : t.lcCnt.valid = true)
include hu hc

/-- No transition is in flight. -/
theorem Phase.of_rest (hf : t.fsm = .idle ∨ t.fsm = .postTrans) (hp : t.otpPending = false) (hh : t.hashState = .hIdle) :
    Phase t := by
  rcases hf with hf | hf <;>
    exact ⟨by rw [hf]; rfl, hu, hc, by simp [hf, hp], by simp [hf, hh], by simp [hf], by simp [hf]⟩

/-- The count program is in flight (R145). -/
theorem Phase.of_cntProg (hf : t.fsm = .cntProg) (hp : t.otpPending = true) (hh : t.hashState = .hIdle) : Phase t :=
  ⟨by rw [hf]; rfl, hu, hc, by simp [hf, hp], by simp [hf, hh], by simp [hf], by simp [hf]⟩

/-- The hash operation is in flight (R149). -/
theorem Phase.of_tokenHash (hf : t.fsm = .tokenHash) (hp : t.otpPending = false) (hh : t.hashState ≠ .hIdle)
    (hr : t.hashReq = t.xactReq) (hk : requiredTokenFor device.transMatrix t.lcState t.tgt ≠ .invalid) : Phase t :=
  ⟨by rw [hf]; rfl, hu, hc, by simp [hf, hp], by simp [hf, hh], fun _ => hr, fun _ => hk⟩

/-- The state program is in flight (R151). -/
theorem Phase.of_transProg (hf : t.fsm = .transProg) (hp : t.otpPending = true) (hh : t.hashState = .hIdle)
    (hk : requiredTokenFor device.transMatrix t.lcState t.tgt ≠ .invalid) : Phase t :=
  ⟨by rw [hf]; rfl, hu, hc, by simp [hf, hp], by simp [hf, hh], by simp [hf], fun _ => hk⟩

end

theorem Inv.phase {s : State} (h : Inv s) (hlive : s.fsm.live = true) : Phase s where
  live := hlive
  unscrapped := (h.live_valid hlive).2.1
  counted := (h.live_valid hlive).2.2.1
  pending := by
    refine ⟨fun hp => ?_, h.pending_wait⟩
    rcases h.pending_place hp with hf | hf | hf
    · exact .inl hf
    · exact .inr hf
    · exact absurd hf (ne_of_live hlive rfl)
  hashing := ⟨fun hh => (h.hash_place hh).resolve_right (ne_of_live hlive rfl), fun hf => (h.hash_wait hf).1⟩
  latched hf := (h.hash_wait hf).2
  allowed := h.pair_allowed

theorem Phase.not_pending {s : State} (h : Phase s) (h1 : s.fsm ≠ .cntProg) (h2 : s.fsm ≠ .transProg) :
    s.otpPending = false :=
  Bool.eq_false_iff.2 fun hp => (h.pending.1 hp).elim h1 h2

theorem Phase.hash_idle {s : State} (h : Phase s) (hf : s.fsm ≠ .tokenHash) : s.hashState = .hIdle :=
  Decidable.byContradiction fun hh => hf (h.hashing.1 hh)

/-! ### The elements that a transition leaves alone -/

/-- What else `Inv` speaks of stays the same. -/
structure SameDevice (s t : State) : Prop where
  initErr : t.initErr = s.initErr
  idState : t.idState = s.idState
  tokens : t.tokens = s.tokens
  slot : ∀ req, t.slot req = s.slot req
  initialized : t.status.initialized = s.status.initialized
  stateError : t.status.stateError = s.status.stateError

theorem start_sameDevice {req : Requester} {s t : State} (hg : s.transRegwen req = true)
    (h : start device req s = .next t) : SameDevice s t := by
  cases start_end hg h <;> subst t <;> exact ⟨rfl, rfl, rfl, slot_congr rfl rfl, rfl, rfl⟩

theorem otpAck_sameDevice {ok : Bool} {s t : State} (h : otpAck device ok s = .next t) : SameDevice s t := by
  cases otpAck_end h <;> subst t <;> exact ⟨rfl, rfl, rfl, slot_congr rfl rfl, rfl, rfl⟩

theorem hashRsp_sameDevice {a b : Token} {d : Bool} {s t : State} (h : hashRsp device a b d s = .next t) :
    SameDevice s t := by
  cases hashRsp_end h <;> subst t <;> exact ⟨rfl, rfl, rfl, slot_congr rfl rfl, rfl, rfl⟩

/-- From a live state to a live state it is enough to look at the phase. -/
theorem Inv.of_phase {s t : State} (h : Inv s) (hlive : s.fsm.live = true) (hsame : SameDevice s t) (hphase : Phase t) :
    Inv t where
  not_transient := transient_of_live hphase.live
  pending_place hp := (hphase.pending.1 hp).imp_right .inl
  pending_wait := hphase.pending.2
  hash_place hh := .inl (hphase.hashing.1 hh)
  hash_wait hf := ⟨hphase.hashing.2 hf, hphase.latched hf⟩
  live_valid _ := by
    obtain ⟨herr, _, _, hid⟩ := h.live_valid hlive
    exact ⟨hsame.initErr.trans herr, hphase.unscrapped, hphase.counted, hsame.idState ▸ hid⟩
  pair_allowed := hphase.allowed
  target_high req := hsame.slot req ▸ h.target_high req
  initialized := by
    rcases h.initialized with hinit | hf | hf
    · exact .inl (hsame.initialized.trans hinit)
    · exact absurd hf (ne_of_live hlive rfl)
    · exact absurd hf (ne_of_live hlive rfl)
  reset_clear hf := absurd hf (ne_of_live hphase.live rfl)
  state_error := by
    rw [hsame.stateError, hsame.initErr]
    exact h.state_error
  invalid_checked hf := absurd hf (ne_of_live hphase.live rfl)
  scrap_held hf := absurd hf (ne_of_live hphase.live rfl)
  tokens_fixed := hsame.tokens ▸ h.tokens_fixed

/-- ESCALATE asks nothing of a transition: it may be left in flight. -/
theorem Inv.of_escalate {s t : State} (h : Inv s) (hsame : SameDevice s t) (hf : t.fsm = .escalate) : Inv t where
  not_transient := by rw [hf]; rfl
  pending_place _ := .inr (.inr hf)
  pending_wait := by simp [hf]
  hash_place _ := .inr hf
  hash_wait := by simp [hf]
  live_valid := by simp [hf, FsmState.live]
  pair_allowed := by simp [hf]
  target_high req := hsame.slot req ▸ h.target_high req
  initialized := .inr (.inr hf)
  reset_clear := by simp [hf]
  state_error := by
    rw [hsame.stateError, hsame.initErr]
    exact h.state_error
  invalid_checked := by simp [hf]
  scrap_held := by simp [hf]
  tokens_fixed := hsame.tokens ▸ h.tokens_fixed

/-! ### The reactions -/

theorem Inv.claimed {s : State} (h : Inv s) (req : Requester) : Inv (rearm { s with owner := some req }) := by
  rcases rearm_cases { s with owner := some req } with ⟨hf, heq⟩ | ⟨_, heq⟩ <;> rw [heq]
  · have hf : s.fsm = .postTrans := hf
    have hphase := h.phase (by rw [hf]; rfl)
    exact h.of_phase hphase.live ⟨rfl, rfl, rfl, slot_congr rfl rfl, rfl, rfl⟩
      (.of_rest hphase.unscrapped hphase.counted (.inl rfl) (hphase.not_pending (by simp [hf]) (by simp [hf]))
        (hphase.hash_idle (by simp [hf])))
  · exact { h with }

/-- R201: a stored target keeps its high bits clear; in IDLE no pair is in use. -/
theorem Inv.slotWritten {s : State} (h : Inv s) {req : Requester} {v : Slot} (hf : s.fsm = .idle)
    (hv : v.target = (s.slot req).target ∨ v.target.extractLsb' 30 2 = 0#2) : Inv (s.setSlot req v) := by
  have hhigh : v.target.extractLsb' 30 2 = 0#2 := hv.elim (fun heq => heq ▸ h.target_high req) id
  have htarget (r : Requester) : ((s.setSlot req v).slot r).target.extractLsb' 30 2 = 0#2 := by
    rcases eq_or_eq_other req r with rfl | rfl
    · rw [setSlot_slot_self, hhigh]
    · rw [setSlot_slot_other, h.target_high]
  have hpair : s.fsm ≠ .tokenHash ∧ s.fsm ≠ .transProg := by simp [hf]
  cases req with
  | sw | dbg => exact { h with target_high := htarget, pair_allowed := fun hf' => hf'.elim (absurd · hpair.1) (absurd · hpair.2) }

theorem Inv.started {s t : State} (h : Inv s) {req : Requester} (hg : s.transRegwen req = true)
    (hstart : start device req s = .next t) : Inv t := by
  have hf := ((transRegwen_iff s req).1 hg).2
  have hphase := h.phase (by rw [hf]; rfl)
  have hu := hphase.unscrapped
  have hc := hphase.counted
  have hp := hphase.not_pending (by simp [hf]) (by simp [hf])
  have hh := hphase.hash_idle (by simp [hf])
  refine h.of_phase hphase.live (start_sameDevice hg hstart) ?_
  cases start_end hg hstart with
  | unlocked _ _ ht => subst ht; exact .of_rest rfl hc (.inl hf) hp hh
  | mismatch _ _ ht => subst ht; exact .of_rest hu hc (.inr rfl) hp hh
  | full _ _ ht => subst ht; exact .of_rest hu hc (.inr rfl) hp hh
  | waiting _ _ _ _ _ _ _ ht => subst ht; exact .of_cntProg hu rfl rfl rfl hh
  | busy _ _ _ _ _ _ _ ht => subst ht; exact .of_rest hu rfl (.inr rfl) hp hh

theorem Inv.acknowledged {s t : State} (h : Inv s) {ok : Bool} (hack : otpAck device ok s = .next t) : Inv t := by
  have hsame := otpAck_sameDevice hack
  have hphase (hlive : s.fsm.live = true) (hnext : Phase s → Phase t) : Inv t :=
    h.of_phase hlive hsame (hnext (h.phase hlive))
  cases otpAck_end hack with
  | unawaited _ ht => exact ht ▸ h
  | countNack _ hf _ ht | forbidden _ hf _ _ ht | stateNack _ hf _ ht =>
    subst ht
    exact hphase (by rw [hf]; rfl) fun hs => .of_rest hs.unscrapped hs.counted (.inr rfl) rfl (hs.hash_idle (by simp [hf]))
  | hashing _ hf _ hk _ ht =>
    subst ht
    exact hphase (by rw [hf]; rfl) fun hs => .of_tokenHash hs.unscrapped hs.counted rfl rfl nofun rfl hk
  | committed l _ hf _ _ ht =>
    by_cases hl : l = .scrap
    · exact h.of_escalate hsame (by rw [ht, committedFsm, if_pos hl])
    · subst ht
      exact hphase (by rw [hf]; rfl) fun hs =>
        .of_rest (bne_iff_ne.2 hl) hs.counted (.inr (if_neg hl)) rfl (hs.hash_idle (by simp [hf]))
  | absorbed _ hf ht =>
    subst ht
    exact h.of_escalate hsame hf

theorem Inv.responded {s t : State} (h : Inv s) {a b : Token} {d : Bool} (hrsp : hashRsp device a b d s = .next t) :
    Inv t := by
  have hsame := hashRsp_sameDevice hrsp
  have hphase (hf : s.fsm = .tokenHash) (hnext : Phase s → Phase t) : Inv t :=
    h.of_phase (by rw [hf]; rfl) hsame (hnext (h.phase (by rw [hf]; rfl)))
  have hplace (hh : s.hashState ≠ .hIdle) := h.hash_place hh
  cases hashRsp_end hrsp with
  | unawaited _ ht => exact ht ▸ h
  | secondHalf hh _ ht =>
    subst ht
    rcases hplace (by simp [hh]) with hf | hf
    · exact hphase hf fun hs => .of_tokenHash hs.unscrapped hs.counted hf (hs.not_pending (by simp [hf]) (by simp [hf]))
        nofun (hs.latched hf) (hs.allowed (.inl hf))
    · exact h.of_escalate hsame hf
  | stored hh _ hne ht =>
    subst ht
    exact h.of_escalate hsame ((hplace (by simp [hh])).resolve_left hne)
  | forbidden _ _ hf _ ht | mismatch _ _ _ _ hf _ _ _ _ ht | busy _ _ _ _ _ hf _ _ _ _ _ _ ht =>
    subst ht
    exact hphase hf fun hs => .of_rest hs.unscrapped hs.counted (.inr rfl) (hs.not_pending (by simp [hf]) (by simp [hf])) rfl
  | waiting _ _ _ _ _ hf _ _ _ _ _ _ ht =>
    subst ht
    exact hphase hf fun hs => .of_transProg hs.unscrapped hs.counted rfl rfl rfl (hs.allowed (.inl hf))

/-! ### INIT and RESET -/

/-- R129: a loader that finds no error has found a real state, a count and an ID state. -/
theorem loaded_of_no_error {c : Config} {info : OtpInfo} {fr : Bool} (herr : (loadInitialState c info fr).err = 0#6) :
    (loadInitialState c info fr).st ≠ .lcsInvalid ∧ (loadInitialState c info fr).cnt ≠ .cntInvalid ∧
    (loadInitialState c info fr).ids ≠ .idInvalid := by
  obtain ⟨h0, _, h2, h3, _, _⟩ := loadInitialState_err c info fr
  rw [herr] at h0 h2 h3
  refine ⟨fun hst => ?_, fun hcnt => ?_, fun hids => ?_⟩
  · rw [hst] at h0
    cases h0
  · rw [hcnt] at h2
    cases h2
  · cases hsv : info.secretValid with
    | secretCorrupt => simp [check3, hsv] at h3
    | secretTrue | secretFalse =>
      have hids : idStateOf info.secretValid = .idInvalid := hids
      rw [hsv] at hids
      cases hids

/-- R129: where the classification leads. -/
theorem classify_of_error {r : LoadResult} (herr : r.err ≠ 0#6) : classify r = .invalid := if_pos herr

theorem classify_of_scrap {r : LoadResult} (herr : r.err = 0#6) (hst : r.st = .real .scrap) : classify r = .scrap :=
  (if_neg (not_not.2 herr)).trans (if_pos hst)

theorem classify_of_unscrapped {r : LoadResult} (herr : r.err = 0#6) (hst : r.st ≠ .real .scrap) : classify r = .idle :=
  (if_neg (not_not.2 herr)).trans (if_neg hst)

theorem unscrapped_iff (v : LcStateVal) : v.unscrapped = true ↔ v ≠ .lcsInvalid ∧ v ≠ .real .scrap := by
  cases v <;> simp [LcStateVal.unscrapped]

theorem valid_iff (v : LcCntVal) : v.valid = true ↔ v ≠ .cntInvalid := by
  cases v <;> simp [LcCntVal.valid]

/-- R129: INIT leads to one of three FSM states, IDLE the only one that waits or is live. -/
theorem Inv.init {s : State} (h : Inv s) (info : OtpInfo) (fr : Bool) : Inv (initReaction device info fr s) := by
  rcases initReaction_cases device info fr s with ⟨_, heq⟩ | ⟨hf, heq⟩ <;> rw [heq]
  · exact h
  obtain ⟨hstatus, _⟩ := h.reset_clear hf
  have hp : s.otpPending = false := Bool.eq_false_iff.2 fun hp => by simpa [hf] using h.pending_place hp
  have hh : s.hashState = .hIdle := Decidable.byContradiction fun hh => by simpa [hf] using h.hash_place hh
  have herror (e : BitVec 6) : (s.status.stateError || (e != 0#6)) = true ↔ e ≠ 0#6 := by simp [hstatus, Status.zero]
  by_cases herr : (loadInitialState device info fr).err = 0#6
  case neg =>
    rw [classify_of_error herr]
    exact {
      not_transient := rfl, pending_place := by simp [hp], pending_wait := by simp, hash_place := by simp [hh],
      hash_wait := by simp, live_valid := by simp [FsmState.live], pair_allowed := by simp, target_high := h.target_high,
      initialized := .inl rfl, reset_clear := by simp, state_error := herror _, invalid_checked := fun _ => herr,
      scrap_held := by simp, tokens_fixed := h.tokens_fixed }
  by_cases hst : (loadInitialState device info fr).st = .real .scrap
  case pos =>
    rw [classify_of_scrap herr hst]
    exact {
      not_transient := rfl, pending_place := by simp [hp], pending_wait := by simp, hash_place := by simp [hh],
      hash_wait := by simp, live_valid := by simp [FsmState.live], pair_allowed := by simp, target_high := h.target_high,
      initialized := .inl rfl, reset_clear := by simp, state_error := herror _, invalid_checked := by simp,
      scrap_held := fun _ => hst, tokens_fixed := h.tokens_fixed }
  case neg =>
    rw [classify_of_unscrapped herr hst]
    obtain ⟨hreal, hcount, hid⟩ := loaded_of_no_error herr
    exact {
      not_transient := rfl, pending_place := by simp [hp], pending_wait := by simp, hash_place := by simp [hh],
      hash_wait := by simp, pair_allowed := by simp, target_high := h.target_high,
      live_valid := fun _ => ⟨herr, (unscrapped_iff _).2 ⟨hreal, hst⟩, (valid_iff _).2 hcount, hid⟩
      initialized := .inl rfl, reset_clear := by simp, state_error := herror _, invalid_checked := by simp,
      scrap_held := by simp, tokens_fixed := h.tokens_fixed }

/-- R270: what a state right after RESET has to hold of the construction-time tokens; everything else is given by the rule. -/
theorem Inv.of_reset {t : State} (hf : t.fsm = .reset) (hp : t.otpPending = false) (hh : t.hashState = .hIdle)
    (hslot : ∀ req, t.slot req = Slot.zero) (hst : t.status = Status.zero) (herr : t.initErr = 0#6)
    (htok : t.tokens.zero = TokenEntry.ofZero device ∧ t.tokens.rawUnlock = TokenEntry.ofRawUnlock device) : Inv t where
  not_transient := by rw [hf]; rfl
  pending_place := by simp [hp]
  pending_wait := by simp [hf]
  hash_place := by simp [hh]
  hash_wait := by simp [hf]
  live_valid := by simp [hf, FsmState.live]
  pair_allowed := by simp [hf]
  target_high req := by rw [hslot req]; rfl
  initialized := .inr (.inl hf)
  reset_clear _ := ⟨hst, herr⟩
  state_error := by simp [hst, herr, Status.zero]
  invalid_checked := by simp [hf]
  scrap_held := by simp [hf]
  tokens_fixed := htok

/-! ### The step -/

theorem Inv.beginReaction {s : State} (h : Inv s) (inp : Input) (rest : List Input) : Inv (s.beginReaction inp rest) :=
  { h with }

/-- R31: every effect of an instruction keeps the invariant. -/
theorem Inv.of_exec {i : Instr} {s t : State} (h : Inv s) (hexec : exec i s = .next t) : Inv t := by
  cases exec_effect hexec with
  | quiet _ _ _ ht | released _ _ _ _ ht | locked _ _ _ ht | control _ _ _ _ ht => subst ht; exact { h with }
  | claimed req _ _ _ ht => exact ht ▸ h.claimed req
  | slotWritten req v _ hg hv ht => exact ht ▸ h.slotWritten ((transRegwen_iff s req).1 hg).2 hv
  | started _ _ hg hstart => exact h.started hg hstart
  | acknowledged _ _ hack => exact h.acknowledged hack
  | responded _ _ _ _ hrsp => exact h.responded hrsp
  | initialized info fr _ ht => exact ht ▸ h.init info fr
  | wasReset _ ht => subst ht; exact .of_reset rfl rfl rfl (fun req => by cases req <;> rfl) rfl rfl h.tokens_fixed
  | escalated _ ht => subst ht; exact h.of_escalate ⟨rfl, rfl, rfl, slot_congr rfl rfl, rfl, rfl⟩ rfl

/-! ### Progress: the faults are out of reach (R249) -/

/-- R31 item 4: the values that the reactions need are there. -/
theorem Phase.values {s : State} (h : Phase s) : ∃ l n, s.lcState = .real l ∧ s.lcCnt = .count n := by
  obtain ⟨hreal, _⟩ := (unscrapped_iff s.lcState).1 h.unscrapped
  have hcount := (valid_iff s.lcCnt).1 h.counted
  cases hl : s.lcState with
  | lcsInvalid => exact absurd hl hreal
  | real l =>
    cases hc : s.lcCnt with
    | cntInvalid => exact absurd hc hcount
    | count n => exact ⟨l, n, rfl, rfl⟩

theorem Phase.target {s : State} (h : Phase s) (hf : s.fsm = .tokenHash ∨ s.fsm = .transProg) : ∃ l, s.tgt = some l := by
  obtain ⟨_, l, _, hl, _⟩ := requiredTokenFor_ne_invalid (h.allowed hf)
  exact ⟨l, hl⟩

theorem Inv.start_completes {s : State} (h : Inv s) (req : Requester) : ∃ t, start device req s = .next t := by
  by_cases hgate : s.owner = some req ∧ s.fsm = .idle
  · obtain ⟨l, n, hl, hc⟩ := (h.phase (by rw [hgate.2]; rfl)).values
    exact Machine.start_completes ((transRegwen_iff s req).2 hgate) hl hc
  · exact ⟨_, start_of_locked device hgate⟩

/-- R146, R101: in CNT_PROG the adapter is idle. -/
theorem ackCntProg_completes {s : State} (ok : Bool) (hh : s.hashState = .hIdle) :
    ∃ t, ackCntProg device ok s = .next t := by
  cases ok with
  | false => exact ⟨_, ackCntProg_nack device s⟩
  | true =>
    rw [ackCntProg_ack]
    by_cases hk : requiredTokenFor device.transMatrix s.lcState s.tgt = .invalid
    · exact ⟨_, transCheck_of_forbidden device hk⟩
    · exact ⟨_, (transCheck_of_allowed device hk).trans (requestHash_of_idle device _ hh)⟩

theorem Inv.otpAck_completes {s : State} (h : Inv s) (ok : Bool) : ∃ t, otpAck device ok s = .next t := by
  cases hp : s.otpPending with
  | false => exact ⟨_, otpAck_of_unawaited device ok hp⟩
  | true =>
    rcases h.pending_place hp with hf | hf | hf
    · rw [otpAck_of_cntProg device ok hp hf]
      exact ackCntProg_completes ok ((h.phase (by rw [hf]; rfl)).hash_idle (by simp [hf]))
    · rw [otpAck_of_transProg device ok hp hf]
      obtain ⟨l, hl⟩ := (h.phase (by rw [hf]; rfl)).target (.inr hf)
      cases ok with
      | false => exact ⟨_, ackTransProg_nack _⟩
      | true => exact ⟨_, ackTransProg_ack hl⟩
    · exact ⟨_, otpAck_of_escalate device ok hp hf⟩

/-- R150, R151: in TOKEN_HASH the target and the count are there. -/
theorem resumeFromHash_completes {s : State} {l : LcState} {n : Fin 25} (ht : s.tgt = some l) (hc : s.lcCnt = .count n) :
    ∃ t, resumeFromHash device s = .next t := by
  rcases resumeFromHash_cases device s with ⟨_, h⟩ | ⟨_, _, h⟩ | ⟨_, _, h⟩
  · exact ⟨_, h⟩
  · exact ⟨_, h.trans (transProg_of_target device ht hc)⟩
  · exact ⟨_, h⟩

/-- R108: a response that contradicts the adapter's state is refused, and it is outside the engine's contract. -/
theorem Inv.hashRsp_completes {s : State} (h : Inv s) (a b : Token) (d : Bool) :
    (∃ t, hashRsp device a b d s = .next t) ∨
    (hashRsp device a b d s = .refused .hashDoneMismatch ∧ contractAllows s (.hashRsp a b d) = false) := by
  cases hh : s.hashState with
  | hIdle => exact .inl ⟨_, hashRsp_of_idle device a b d hh⟩
  | hFirstSent =>
    cases d with
    | true => exact .inr ⟨hashRsp_early device a b hh, by simp [contractAllows, hh]⟩
    | false => exact .inl ⟨_, hashRsp_intermediate device a b hh⟩
  | hSecondSent =>
    cases d with
    | false => exact .inr ⟨hashRsp_late device a b hh, by simp [contractAllows, hh]⟩
    | true =>
      refine .inl ?_
      rw [hashRsp_final device a b hh]
      split_ifs with hf
      · have hphase := h.phase (by rw [hf]; rfl)
        obtain ⟨_, n, _, hc⟩ := hphase.values
        obtain ⟨l, hl⟩ := hphase.target (.inl hf)
        exact resumeFromHash_completes (s := storeDigest a b s) hl hc
      · exact ⟨_, rfl⟩

/-- From the invariant every stimulus completes, but for a response outside the engine's contract. -/
theorem Inv.exec_completes {s : State} (h : Inv s) (i : Instr) :
    (∃ t, exec i s = .next t) ∨ (exec i s = .refused .hashDoneMismatch ∧ contractAllows s i = false) := by
  cases i with
  | otpAck ok => exact .inl (h.otpAck_completes ok)
  | hashRsp a b d => exact h.hashRsp_completes a b d
  | start req hi => exact .inl (h.start_completes req)
  | wrTransitionCmd req w =>
    refine .inl ?_
    cases hw : w.getLsbD 0 with
    | true => exact (h.start_completes req).imp fun _ ht => (exec_of_commandReq (commandReq_of_word (.inr ⟨w, rfl, hw⟩)) s).trans ht
    | false => exact ⟨_, exec_wrTransitionCmd_of_zero s hw⟩
  | _ => exact .inl ⟨_, rfl⟩

/-! ### The life-cycle state -/

/-- R95: what the matrix holds for the one pair that the configuration fixes. -/
theorem matrix_raw_testUnlocked0 : device.transMatrix .raw .testUnlocked0 ≠ .invalid := by
  rw [device_wellFormed.matrix_raw_unlock]
  decide

/-- R141: of a start only the volatile unlock writes the life-cycle state. -/
theorem start_lcState {req : Requester} {s t : State} (hg : s.transRegwen req = true)
    (h : start device req s = .next t) :
    t.lcState = s.lcState ∨ (s.lcState = .real .raw ∧ t.lcState = .real .testUnlocked0) := by
  cases start_end hg h with
  | unlocked hv _ ht =>
    obtain ⟨_, _, hraw, _⟩ := (volatileCond_iff _ s).1 hv
    exact .inr ⟨hraw, by rw [ht]⟩
  | mismatch _ _ ht | full _ _ ht | waiting _ _ _ _ _ _ _ ht | busy _ _ _ _ _ _ _ ht => subst ht; exact .inl rfl

/-- R152: of an acknowledge only the commit of the target writes the life-cycle state. -/
theorem otpAck_lcState {ok : Bool} {s t : State} (h : otpAck device ok s = .next t) :
    t.lcState = s.lcState ∨ ∃ l, s.fsm = .transProg ∧ s.tgt = some l ∧ t.lcState = .real l := by
  cases otpAck_end h with
  | committed l _ hf _ hl ht => exact .inr ⟨l, hf, hl, by rw [ht]⟩
  | unawaited _ ht | countNack _ _ _ ht | forbidden _ _ _ _ ht | hashing _ _ _ _ _ ht | stateNack _ _ _ ht
  | absorbed _ _ ht =>
    subst ht
    exact .inl rfl

theorem hashRsp_lcState {a b : Token} {d : Bool} {s t : State} (h : hashRsp device a b d s = .next t) :
    t.lcState = s.lcState := by
  cases hashRsp_end h <;> subst t <;> rfl

end Sys2Proof

namespace Sys2Proof.Proofs

open Machine

/-- Settles O55: every element that the invariant speaks of has its value of R32. -/
theorem machineAfterResetMeetsInv : Obligations.MachineAfterResetMeetsInv :=
  .of_reset rfl rfl rfl (fun req => by cases req <;> rfl) rfl rfl ⟨rfl, rfl⟩

/-- Settles O56: taking the input changes no element of R10, and each of the twelve effects keeps the invariant. -/
theorem everyStepKeepsInv : Obligations.EveryStepKeepsInv := by
  intro s t h hstep
  rcases step_cases s with ⟨_, hs⟩ | ⟨inp, rest, _, ⟨_, _, hs⟩ | ⟨i, _, hs⟩⟩ <;> rw [hs] at hstep
  · exact Host.Outcome.next.inj hstep ▸ h
  · cases hstep
  · exact (h.beginReaction inp rest).of_exec hstep

/-- Settles O57: from the invariant an instruction has a next state or is refused. -/
theorem stepsFromInvariantStatesNeverFault : Obligations.StepsFromInvariantStatesNeverFault := by
  intro s f h hstep
  rcases step_cases s with ⟨_, hs⟩ | ⟨inp, rest, _, ⟨_, _, hs⟩ | ⟨i, _, hs⟩⟩ <;> rw [hs] at hstep
  · cases hstep
  · cases hstep
  · rcases (h.beginReaction inp rest).exec_completes i with ⟨t, ht⟩ | ⟨hrefused, _⟩
    · exact absurd (ht.symm.trans hstep) nofun
    · exact absurd (hrefused.symm.trans hstep) nofun

/-- Settles O58: the one refusal is of a response that the contract does not let arrive. -/
theorem contractStimuliComplete : Obligations.ContractStimuliComplete :=
  fun i _ h hallowed => (h.exec_completes i).resolve_right fun ⟨_, hno⟩ => Bool.false_ne_true (hno.symm.trans hallowed)

/-- Settles O48: besides INIT and RESET two effects write the state: the volatile unlock, whose pair R95 fixes, and the commit, whose pair
was allowed at the check and has been kept since (`pair_allowed`). -/
theorem lcStateChangesOnlyToAllowedStates : Obligations.LcStateChangesOnlyToAllowedStates := by
  intro i s t h hexec hne
  cases exec_effect hexec with
  | quiet _ _ _ ht | released _ _ _ _ ht | locked _ _ _ ht | control _ _ _ _ ht | escalated _ ht =>
    subst ht
    exact absurd rfl hne
  | claimed _ _ _ _ ht => subst ht; exact absurd (rearm_lcState _) hne
  | slotWritten req v _ _ _ ht => subst ht; exact absurd (setSlot_lcState s req v) hne
  | started _ _ hg ht =>
    obtain ⟨hraw, hunlocked⟩ := (start_lcState hg ht).resolve_left hne
    exact .inr (.inr ⟨.raw, .testUnlocked0, hraw, hunlocked, matrix_raw_testUnlocked0⟩)
  | acknowledged _ _ ht =>
    obtain ⟨l, hf, hl, hcommitted⟩ := (otpAck_lcState ht).resolve_left hne
    obtain ⟨f, l', hreal, htgt, hallowed⟩ := requiredTokenFor_ne_invalid (h.pair_allowed (.inr hf))
    cases hl.symm.trans htgt
    exact .inr (.inr ⟨f, l, hreal, hcommitted, hallowed⟩)
  | responded _ _ _ _ ht => exact absurd (hashRsp_lcState ht) hne
  | initialized info fr hi ht =>
    rcases initReaction_cases device info fr s with ⟨_, hkept⟩ | ⟨hf, _⟩
    · exact absurd (by rw [ht, hkept]) hne
    · exact .inr (.inl ⟨hf, info, fr, hi⟩)
  | wasReset hi _ => exact .inl hi

end Sys2Proof.Proofs
end

section
/-! INIT (R115 to R131): the six checks, each by what it looks at, and the next state of each classification. -/

namespace Sys2Proof.Machine

/-! ### What the loader finds -/

/-- R117: `force_raw` replaces the string by RAW's own entry. -/
theorem loaded_st_of_forceRaw {c : Config} (hc : c.WellFormed) (info : OtpInfo) :
    (loadInitialState c info true).st = .real .raw := decodeState_table hc .raw

theorem loaded_st_eq_lcsInvalid_iff {c : Config} (hc : c.WellFormed) (info : OtpInfo) (fr : Bool) :
    (loadInitialState c info fr).st = .lcsInvalid ↔ fr = false ∧ ∀ l, info.stateEnc ≠ c.lcStateTable l := by
  cases fr with
  | true =>
    rw [loaded_st_of_forceRaw hc]
    exact ⟨nofun, fun h => absurd h.1 nofun⟩
  | false =>
    rw [← decodeState_eq_lcsInvalid_iff hc]
    exact ⟨fun h => ⟨rfl, h⟩, And.right⟩

theorem loaded_st_eq_real_iff {c : Config} (hc : c.WellFormed) (info : OtpInfo) (fr : Bool) {l : LcState} (hl : l ≠ .raw) :
    (loadInitialState c info fr).st = .real l ↔ fr = false ∧ info.stateEnc = c.lcStateTable l := by
  cases fr with
  | true =>
    rw [loaded_st_of_forceRaw hc]
    exact ⟨fun h => absurd (LcStateVal.real.inj h).symm hl, fun h => absurd h.1 nofun⟩
  | false =>
    rw [← decodeState_eq_real_iff hc]
    exact ⟨fun h => ⟨rfl, h⟩, And.right⟩

theorem loaded_cnt (c : Config) (info : OtpInfo) (fr : Bool) :
    (loadInitialState c info fr).cnt = decodeCnt c info.cntEnc := rfl

/-! ### The checks -/

theorem check0_iff (st : LcStateVal) (info : OtpInfo) :
    check0 st info = true ↔ st = .lcsInvalid ∨ info.lcValid = false := by
  simp [check0]

theorem check2_iff (cnt : LcCntVal) : check2 cnt = true ↔ cnt = .cntInvalid := by
  simp [check2]

theorem check3_iff (info : OtpInfo) : check3 info = true ↔ info.secretValid = .secretCorrupt := by
  simp [check3]

theorem check4_iff (st : LcStateVal) (cnt : LcCntVal) :
    check4 st cnt = true ↔ (∃ l, l ≠ .raw ∧ st = .real l) ∧ cnt = .count 0 := by
  cases st <;> simp [check4]

/-- R120: the status is the flag, renamed. -/
theorem idStateOf_iff (sv : SecretValid) :
    (idStateOf sv = .personalized ↔ sv = .secretTrue) ∧ (idStateOf sv = .blank ↔ sv = .secretFalse) ∧
    (idStateOf sv = .idInvalid ↔ sv = .secretCorrupt) := by
  cases sv <;> simp [idStateOf]

/-- A check that fails leaves its bit in the bitmap. -/
theorem err_ne_zero_of_bit {r : LoadResult} {n : Nat} (h : r.err.getLsbD n = true) : r.err ≠ 0#6 := by
  intro hzero
  rw [hzero, BitVec.getLsbD_zero] at h
  cases h

/-! ### The next state -/

/-- INIT in RESET, the classification and the resulting STATE_ERROR given. -/
theorem initReaction_of_reset {c : Config} {info : OtpInfo} {fr : Bool} {s : State} {f : FsmState} {b : Bool}
    (hf : s.fsm = .reset) (hcl : classify (loadInitialState c info fr) = f)
    (hb : (s.status.stateError || ((loadInitialState c info fr).err != 0#6)) = b) :
    initReaction c info fr s =
      { s with
        lcState := (loadInitialState c info fr).st
        lcCnt := (loadInitialState c info fr).cnt
        idState := (loadInitialState c info fr).ids
        initErr := (loadInitialState c info fr).err
        tokens := { s.tokens with testUnlock := info.testUnlock, testExit := info.testExit, rma := info.rma }
        status := { s.status with initialized := true, stateError := b }
        fsm := f } := by
  rcases initReaction_cases c info fr s with ⟨hne, _⟩ | ⟨_, h⟩
  · exact absurd hf hne
  · rw [h, hcl, hb]

end Sys2Proof.Machine

namespace Sys2Proof.Proofs

open Machine

/-- Settles O38: bit i is check i, and each check is taken apart on its own. -/
theorem loaderChecksAreIndependentBits : Obligations.LoaderChecksAreIndependentBits := by
  intro c info fr hc r
  obtain ⟨h0, h1, h2, h3, h4, h5⟩ := loadInitialState_err c info fr
  obtain ⟨hpersonalized, hblank, hinvalid⟩ := idStateOf_iff info.secretValid
  refine ⟨?state, ?vendor, ?count, ?secret, ?zero, ?expected, hpersonalized, hblank, hinvalid⟩
  case state => rw [h0, check0_iff, loaded_st_eq_lcsInvalid_iff hc]
  case vendor => rw [h1, check1]
  case count => rw [h2, check2_iff, loaded_cnt, decodeCnt_eq_cntInvalid_iff]
  case secret => rw [h3, check3_iff]
  case zero =>
    rw [h4, check4_iff, loaded_cnt, decodeCnt_eq_count_iff hc, ← and_assoc]
    refine and_congr_left fun _ => ⟨fun ⟨l, hl, hst⟩ => ?_, fun ⟨hfr, l, hl, henc⟩ => ?_⟩
    · obtain ⟨hfr, henc⟩ := (loaded_st_eq_real_iff hc info fr hl).1 hst
      exact ⟨hfr, l, hl, henc⟩
    · exact ⟨l, hl, (loaded_st_eq_real_iff hc info fr hl).2 ⟨hfr, henc⟩⟩
  case expected => rw [h5, check5]

/-- Settles O35: INIT acts in RESET only, by the three classifications; a string of another length is no entry, and its check fails. -/
theorem initFollowsItsRule : Obligations.InitFollowsItsRule := by
  refine ⟨exec_init, fun c info fr s => ⟨fun hf => ?elsewhere, fun hf => ?inReset⟩, fun c info fr hc => ?lengths⟩
  case elsewhere =>
    rcases initReaction_cases c info fr s with ⟨_, h⟩ | ⟨hreset, _⟩
    · exact h
    · exact absurd hreset hf
  case inReset =>
    intro r loaded
    refine ⟨fun herr => ?_, fun herr hst => ?_, fun herr hst => ?_⟩
    · exact initReaction_of_reset hf (classify_of_error herr) (by simpa using .inr herr)
    · exact initReaction_of_reset hf (classify_of_scrap herr hst) (by rw [show _ = 0#6 from herr]; exact Bool.or_false _)
    · exact initReaction_of_reset hf (classify_of_unscrapped herr hst) (by rw [show _ = 0#6 from herr]; exact Bool.or_false _)
  case lengths =>
    intro r
    obtain ⟨h0, _, h2, _⟩ := loadInitialState_err c info fr
    refine ⟨fun hlen hfr => ?_, fun hlen => ?_⟩
    · subst hfr
      have hst : r.st = .lcsInvalid := decodeState_of_length hc hlen
      exact ⟨hst, err_ne_zero_of_bit (h0.trans ((check0_iff _ _).2 (.inl hst)))⟩
    · have hcnt : r.cnt = .cntInvalid := decodeCnt_of_length hc hlen
      exact ⟨hcnt, err_ne_zero_of_bit (h2.trans ((check2_iff _).2 hcnt))⟩

end Sys2Proof.Proofs
end

section
/-! RESET and the machine after it (R32, R270), ESCALATE (R154), and the lines (R231, R232). -/

namespace Sys2Proof.Machine

theorem exec_reset (s : State) : exec .reset s = .next (resetReaction s) := rfl

theorem exec_escalate (s : State) : exec .escalate s = .next { s with fsm := .escalate } := rfl

theorem lines_eq (s : State) : s.lines = device.broadcastTable s.fsm s.lcState s.idState := rfl

/-- R232: in the terminal states the lines are ESCALATE_EN alone. -/
theorem lines_of_terminal {s : State} (h : s.fsm.terminal = true) : s.lines = Config.onlyEscalateEn := by
  rw [lines_eq]
  cases hf : s.fsm with
  | scrap => exact device_wellFormed.broadcast_scrap _ _
  | escalate => exact device_wellFormed.broadcast_escalate _ _
  | invalid => exact device_wellFormed.broadcast_invalid _ _
  | reset | idle | clkMux | cntIncr | cntProg | transCheck | tokenHash | tokenCheck | transProg | postTrans =>
    rw [hf] at h
    cases h

/-- R230: bit 6 is the line ESCALATE_EN's, and no other's. -/
theorem onlyEscalateEn_bit (x : Line) : Config.onlyEscalateEn.getLsbD x.bit = (x == .escalateEn) := by
  cases x <;> rfl

/-- R92: the raw-unlock entry at construction. -/
theorem ofRawUnlock_of_some {c : Config} {t : Token} (h : c.rawUnlockToken = some t) :
    TokenEntry.ofRawUnlock c = ⟨c.lcHash t, true⟩ := by
  rw [TokenEntry.ofRawUnlock, h]

theorem ofRawUnlock_of_none {c : Config} (h : c.rawUnlockToken = none) : TokenEntry.ofRawUnlock c = TokenEntry.unset := by
  rw [TokenEntry.ofRawUnlock, h]

end Sys2Proof.Machine

namespace Sys2Proof.Proofs

open Machine

/-- Settles O39: the values are those of RESET's own update. -/
theorem resetGivesEveryElementItsValue : Obligations.ResetGivesEveryElementItsValue :=
  fun s => ⟨resetReaction s, exec_reset s, rfl, rfl, rfl, rfl, rfl, rfl, rfl, rfl, rfl, rfl, rfl, rfl, rfl, rfl, rfl, rfl,
    rfl, rfl, rfl⟩

/-- Settles O40: the values stand in `State.reset`; the raw-unlock entry depends on whether the token is configured. -/
theorem machineAfterResetIsTheSpecs : Obligations.MachineAfterResetIsTheSpecs :=
  ⟨rfl, rfl, rfl, rfl, rfl, rfl, rfl, rfl, rfl, rfl, rfl, rfl, rfl, fun _ ht => ofRawUnlock_of_some ht,
    fun hnone => congrArg TokenEntry.valid (ofRawUnlock_of_none hnone), rfl, rfl, rfl⟩

/-- Settles O41: ESCALATE is a terminal state, with the lines of the terminal states and a view of its own. -/
theorem escalationFollowsItsRule : Obligations.EscalationFollowsItsRule := by
  refine ⟨exec_escalate, fun s hf => ?_⟩
  have hterm : s.fsm.terminal = true := by rw [hf]; rfl
  refine ⟨lines_of_terminal hterm, fun req => exec_rdLcState_of_some req (encView_of_escalate hf), ?ready, fun i t hi h => ?stays⟩
  case ready =>
    have hbit : s.statusValue.getLsbD 1 = (s.fsm == .idle) := getLsbD_statusValue s 1
    rw [hbit, hf]
    rfl
  case stays =>
    rw [exec_fsm_of_terminal hterm h hi, hf, ite_self]

/-- Settles O53: the lines are the broadcast table's value at the three elements. -/
theorem linesDependOnlyOnTheThreeInputs : Obligations.LinesDependOnlyOnTheThreeInputs := by
  refine ⟨fun s t hf hl hid => ?same, fun s t hs ht => ?inReset, fun s x hterm => ?terminal⟩
  case same => rw [lines_eq, lines_eq, hf, hl, hid]
  case inReset =>
    rw [lines_eq, lines_eq, hs, ht]
    exact device_wellFormed.broadcast_reset _ _ _ _
  case terminal => rw [State.line, lines_of_terminal hterm, onlyEscalateEn_bit]

end Sys2Proof.Proofs
end

section
/-! What every instruction but RESET keeps: the sticky bits (R18, R31 items 7 and 8), and the arrows of the FSM's graph (R135). -/

namespace Sys2Proof

open Machine

/-! ### The sticky bits -/

theorem statusLe_refl (a : Status) : statusLe a a = true := by
  simp [statusLe]

/-- The four sticky elements of R31 items 7 and 8, R25 and R27. -/
structure Sticks (s t : State) : Prop where
  status : statusLe s.status t.status = true
  claimRegwen : s.claimRegwen = false → t.claimRegwen = false
  clkBypReq : s.clkBypReq = true → t.clkBypReq = true
  volUnlock : s.volUnlock = true → t.volUnlock = true

theorem Sticks.of_eq {s t : State} (h1 : t.status = s.status) (h2 : t.claimRegwen = s.claimRegwen)
    (h3 : t.clkBypReq = s.clkBypReq) (h4 : t.volUnlock = s.volUnlock) : Sticks s t :=
  ⟨h1 ▸ statusLe_refl _, h2.trans, h3.trans, h4.trans⟩

/-- A reaction that only sets status bits. -/
theorem Sticks.of_status {s t : State} (h1 : statusLe s.status t.status = true) (h2 : t.claimRegwen = s.claimRegwen)
    (h3 : t.clkBypReq = s.clkBypReq) (h4 : t.volUnlock = s.volUnlock) : Sticks s t :=
  ⟨h1, h2.trans, h3.trans, h4.trans⟩

theorem start_sticks {req : Requester} {s t : State} (hg : s.transRegwen req = true) (h : start device req s = .next t) :
    Sticks s t := by
  cases start_end hg h with
  | unlocked _ _ ht => subst ht; exact ⟨by simp [statusLe], id, id, fun _ => rfl⟩
  | mismatch _ _ ht => subst ht; exact ⟨by simp [statusLe], id, id, id⟩
  | full _ _ ht | waiting _ _ _ _ _ _ _ ht | busy _ _ _ _ _ _ _ ht =>
    subst ht
    exact ⟨by simp [statusLe, ← Bool.or_assoc], id, fun hclk => by simp [hclk], id⟩

theorem otpAck_sticks {ok : Bool} {s t : State} (h : otpAck device ok s = .next t) : Sticks s t := by
  cases otpAck_end h with
  | unawaited _ ht | hashing _ _ _ _ _ ht | absorbed _ _ ht => subst ht; exact .of_eq rfl rfl rfl rfl
  | countNack _ _ _ ht | forbidden _ _ _ _ ht | stateNack _ _ _ ht | committed _ _ _ _ _ ht =>
    subst ht
    exact .of_status (by simp [statusLe]) rfl rfl rfl

theorem hashRsp_sticks {a b : Token} {d : Bool} {s t : State} (h : hashRsp device a b d s = .next t) : Sticks s t := by
  cases hashRsp_end h with
  | unawaited _ ht | secondHalf _ _ ht | stored _ _ _ ht | waiting _ _ _ _ _ _ _ _ _ _ _ _ ht =>
    subst ht
    exact .of_eq rfl rfl rfl rfl
  | forbidden _ _ _ _ ht | mismatch _ _ _ _ _ _ _ _ _ ht | busy _ _ _ _ _ _ _ _ _ _ _ _ ht =>
    subst ht
    exact .of_status (by simp [statusLe]) rfl rfl rfl

theorem initReaction_sticks (c : Config) (info : OtpInfo) (fr : Bool) (s : State) : Sticks s (initReaction c info fr s) := by
  rcases initReaction_cases c info fr s with ⟨_, h⟩ | ⟨_, h⟩ <;> rw [h]
  · exact .of_eq rfl rfl rfl rfl
  · exact .of_status (by simp [statusLe, ← Bool.or_assoc]) rfl rfl rfl

theorem exec_sticks {i : Instr} {s t : State} (hi : i ≠ .reset) (h : exec i s = .next t) : Sticks s t := by
  cases exec_effect h with
  | quiet _ _ _ ht | released _ _ _ _ ht | control _ _ _ _ ht | escalated _ ht => subst ht; exact .of_eq rfl rfl rfl rfl
  | claimed _ _ _ _ ht =>
    subst ht
    exact .of_eq (rearm_status _) (rearm_claimRegwen _) (rearm_clkBypReq _) (rearm_volUnlock _)
  | locked _ _ _ ht => subst ht; exact ⟨statusLe_refl _, fun _ => rfl, id, id⟩
  | slotWritten req v _ _ _ ht =>
    subst ht
    exact .of_eq (setSlot_status s req v) (setSlot_claimRegwen s req v) (setSlot_clkBypReq s req v)
      (setSlot_volUnlock s req v)
  | started _ _ hg ht => exact start_sticks hg ht
  | acknowledged _ _ ht => exact otpAck_sticks ht
  | responded _ _ _ _ ht => exact hashRsp_sticks ht
  | initialized info fr _ ht => exact ht ▸ initReaction_sticks device info fr s
  | wasReset hreset _ => exact absurd hreset hi

/-! ### The graph of the FSM (R135) -/

/-- No stimulus but RESET, ESCALATE and, in RESET, INIT has to move the FSM. -/
theorem fsmMove_self {i : Instr} {f : FsmState} (h1 : i ≠ .reset) (h2 : i ≠ .escalate)
    (h3 : ∀ info fr, i = .init info fr → f ≠ .reset) : fsmMove i f f = true := by
  unfold fsmMove
  split
  · exact absurd rfl h1
  · exact absurd rfl h2
  · have hf := h3 _ _ rfl
    cases f with
    | reset => exact absurd rfl hf
    | idle | clkMux | cntIncr | cntProg | transCheck | tokenHash | tokenCheck | transProg | postTrans | scrap | escalate
    | invalid => rfl
  all_goals cases f <;> rfl

theorem fsmMove_of_eq {i : Instr} {f t : FsmState} (h1 : i ≠ .reset) (h2 : i ≠ .escalate)
    (h3 : ∀ info fr, i = .init info fr → f ≠ .reset) (h : t = f) : fsmMove i f t = true := by
  rw [h, fsmMove_self h1 h2 h3]

/-- R139: a claim may re-arm. -/
theorem fsmMove_rearm {i : Instr} {req : Requester} (hi : claimReq i = some req) :
    fsmMove i .postTrans .idle = true := by
  unfold claimReq at hi
  split at hi
  case h_1 | h_2 => rfl
  case h_3 => cases hi

/-- R140 to R145: where a start may lead. -/
theorem fsmMove_start {i : Instr} {req : Requester} {t : FsmState} (hi : commandReq i = some req)
    (ht : t = .idle ∨ t = .cntProg ∨ t = .postTrans) : fsmMove i .idle t = true := by
  unfold commandReq at hi
  split at hi
  case h_1 | h_2 => rcases ht with rfl | rfl | rfl <;> rfl
  case h_3 => cases hi

theorem fsmMove_otpAck {ok : Bool} {s t : State} (h : otpAck device ok s = .next t) :
    fsmMove (.otpAck ok) s.fsm t.fsm = true := by
  cases otpAck_end h with
  | unawaited _ ht | absorbed _ _ ht => subst ht; exact fsmMove_self nofun nofun nofun
  | countNack _ hf _ ht | forbidden _ hf _ _ ht | hashing _ hf _ _ _ ht | stateNack _ hf _ ht => rw [ht, hf]; rfl
  | committed l _ hf _ _ ht =>
    rw [ht, hf]
    unfold committedFsm
    split <;> rfl

theorem fsmMove_hashRsp {a b : Token} {d : Bool} {s t : State} (h : hashRsp device a b d s = .next t) :
    fsmMove (.hashRsp a b d) s.fsm t.fsm = true := by
  cases hashRsp_end h with
  | unawaited _ ht | secondHalf _ _ ht | stored _ _ _ ht => subst ht; exact fsmMove_self nofun nofun nofun
  | forbidden _ _ hf _ ht | mismatch _ _ _ _ hf _ _ _ _ ht | waiting _ _ _ _ _ hf _ _ _ _ _ _ ht
  | busy _ _ _ _ _ hf _ _ _ _ _ _ ht => rw [ht, hf]; rfl

/-- R129, R130: where INIT may lead. -/
theorem fsmMove_init (c : Config) (info : OtpInfo) (fr : Bool) (s : State) :
    fsmMove (.init info fr) s.fsm (initReaction c info fr s).fsm = true := by
  rcases initReaction_cases c info fr s with ⟨hne, h⟩ | ⟨hf, h⟩ <;> rw [h]
  · exact fsmMove_self nofun nofun fun _ _ _ => hne
  · rw [hf]
    dsimp only
    unfold classify
    split_ifs <;> rfl

end Sys2Proof

namespace Sys2Proof.Proofs

open Machine

/-- Settles O45: no effect but RESET's clears a status bit, the clock request or the volatile flag, or sets the write-enable again. -/
theorem stickyBitsStayUntilReset : Obligations.StickyBitsStayUntilReset := by
  intro i s t hi h
  obtain ⟨hstatus, hregwen, hclk, hvol⟩ := exec_sticks hi h
  exact ⟨hstatus, hregwen, hclk, hvol⟩

/-- Settles O46: RESET, ESCALATE and INIT by their own reactions; of the other effects only a claim, a start and the two completions move the FSM. -/
theorem fsmMovesOnlyAlongItsGraph : Obligations.FsmMovesOnlyAlongItsGraph := by
  intro i s t h
  by_cases hreset : i = .reset
  · subst hreset; cases h; rfl
  by_cases hesc : i = .escalate
  · subst hesc; cases h; rfl
  by_cases hinit : ∃ info fr, i = .init info fr
  · obtain ⟨info, fr, rfl⟩ := hinit
    cases h
    exact fsmMove_init device info fr s
  have hstay (hf : t.fsm = s.fsm) : fsmMove i s.fsm t.fsm = true :=
    fsmMove_of_eq hreset hesc (fun info fr hi => absurd ⟨info, fr, hi⟩ hinit) hf
  cases exec_effect h with
  | quiet _ _ _ ht | released _ _ _ _ ht | locked _ _ _ ht | control _ _ _ _ ht => subst ht; exact hstay rfl
  | claimed req hi _ _ ht =>
    rcases rearm_cases { s with owner := some req } with ⟨hf, heq⟩ | ⟨_, heq⟩
    · rw [ht, heq, show s.fsm = .postTrans from hf]
      exact fsmMove_rearm hi
    · exact hstay (by rw [ht, heq])
  | slotWritten req v _ _ _ ht => subst ht; exact hstay (setSlot_fsm s req v)
  | started req hi hg ht =>
    rw [((transRegwen_iff s req).1 hg).2]
    exact fsmMove_start hi (start_fsm hg ht)
  | acknowledged ok hi ht => exact hi ▸ fsmMove_otpAck ht
  | responded a b d hi ht => exact hi ▸ fsmMove_hashRsp ht
  | initialized info fr hi _ => exact absurd ⟨info, fr, hi⟩ hinit
  | wasReset hi _ => exact absurd hi hreset
  | escalated hi _ => exact absurd hi hesc

end Sys2Proof.Proofs
end

section
/-! The encodings of values (R66, R67) and of the token (R71, R103). -/

namespace Sys2Proof.Machine

/-! ### The target -/

theorem append_inj_iff {m k : Nat} {a c : BitVec m} {b d : BitVec k} : a ++ b = c ++ d ↔ a = c ∧ b = d := by
  refine ⟨fun h => ⟨?_, ?_⟩, fun ⟨h1, h2⟩ => h1 ▸ h2 ▸ rfl⟩
  · rw [← append_high a b, h, append_high]
  · rw [← append_low a b, h, append_low]

/-- R66: bits 29:0 are six groups of five bits. -/
theorem low30_eq_groups (v : Word) :
    v.extractLsb' 0 30 =
      v.extractLsb' 25 5 ++ v.extractLsb' 20 5 ++ v.extractLsb' 15 5 ++ v.extractLsb' 10 5 ++ v.extractLsb' 5 5 ++
        v.extractLsb' 0 5 := by
  have split (a n m : Nat) : v.extractLsb' a (m + n) = v.extractLsb' (a + n) m ++ v.extractLsb' a n :=
    (BitVec.extractLsb'_append_extractLsb'_eq_extractLsb' rfl).symm
  calc v.extractLsb' 0 30
      = v.extractLsb' 5 25 ++ v.extractLsb' 0 5 := split 0 5 25
    _ = v.extractLsb' 10 20 ++ v.extractLsb' 5 5 ++ v.extractLsb' 0 5 := congrArg (· ++ _) (split 5 5 20)
    _ = v.extractLsb' 15 15 ++ v.extractLsb' 10 5 ++ v.extractLsb' 5 5 ++ v.extractLsb' 0 5 :=
        congrArg (· ++ _ ++ _) (split 10 5 15)
    _ = v.extractLsb' 20 10 ++ v.extractLsb' 15 5 ++ v.extractLsb' 10 5 ++ v.extractLsb' 5 5 ++ v.extractLsb' 0 5 :=
        congrArg (· ++ _ ++ _ ++ _) (split 15 5 10)
    _ = _ := congrArg (· ++ _ ++ _ ++ _ ++ _) (split 20 5 5)

theorem groups_eq_iff (g5 g4 g3 g2 g1 g0 x : BitVec 5) :
    g5 ++ g4 ++ g3 ++ g2 ++ g1 ++ g0 = x ++ x ++ x ++ x ++ x ++ x ↔
      g5 = x ∧ g4 = x ∧ g3 = x ∧ g2 = x ∧ g1 = x ∧ g0 = x := by
  simp only [append_inj_iff, and_assoc]

/-- R67: an index times 0x02108421 is the index in each of the six groups. -/
theorem idx_mul_eq_groups (l : LcState) :
    BitVec.ofNat 30 (l.idx * 0x02108421) =
      BitVec.ofNat 5 l.idx ++ BitVec.ofNat 5 l.idx ++ BitVec.ofNat 5 l.idx ++ BitVec.ofNat 5 l.idx ++
        BitVec.ofNat 5 l.idx ++ BitVec.ofNat 5 l.idx := by
  cases l <;> rfl

/-- R66: an index fits in five bits. -/
theorem toNat_ofNat_idx (l : LcState) : (BitVec.ofNat 5 l.idx).toNat = l.idx := by
  cases l <;> rfl

theorem lcStateOfIdx_eq_some_iff (i : Nat) (l : LcState) : lcStateOfIdx i = some l ↔ i = l.idx := by
  constructor
  · intro h
    by_cases hi : i < 21
    · interval_cases i <;> cases h <;> rfl
    · rw [lcStateOfIdx, List.getElem?_eq_none (by simpa [LcState.all] using hi)] at h
      cases h
  · rintro rfl
    cases l <;> rfl

/-- R67: a target decodes to a state exactly if its six groups are the state's index. -/
theorem decodeTarget_eq_some_iff (v : Word) (l : LcState) :
    decodeTarget v = some l ↔ v.extractLsb' 0 30 = BitVec.ofNat 30 (l.idx * 0x02108421) := by
  have hidx : lcStateOfIdx (v.extractLsb' 0 5).toNat = some l ↔ v.extractLsb' 0 5 = BitVec.ofNat 5 l.idx := by
    rw [lcStateOfIdx_eq_some_iff, ← toNat_ofNat_idx l, BitVec.toNat_inj, toNat_ofNat_idx]
  rw [low30_eq_groups, idx_mul_eq_groups]
  refine Iff.trans ?_ (groups_eq_iff _ _ _ _ _ _ _).symm
  unfold decodeTarget
  dsimp only
  split_ifs with h
  · obtain ⟨h1, h2, h3, h4, h5⟩ := h
    rw [hidx, h1, h2, h3, h4, h5]
    simp only [and_self]
  · exact ⟨nofun, fun ⟨h5, h4, h3, h2, h1, h0⟩ => absurd (by rw [h0]; exact ⟨h1, h2, h3, h4, h5⟩) h⟩

/-! ### The token -/

/-- The four bytes of a word in increasing significance (R71). -/
def wordBytes (w : Word) : List Byte :=
  [w.extractLsb' 0 8, w.extractLsb' 8 8, w.extractLsb' 16 8, w.extractLsb' 24 8]

/-- R71: the bytes of two words, the less significant word first. -/
theorem chunk_append (w1 w0 : Word) : chunk (w1 ++ w0) = wordBytes w0 ++ wordBytes w1 := by
  have low {j : Nat} (hj : j + 8 ≤ 32) : (w1 ++ w0).extractLsb' j 8 = w0.extractLsb' j 8 :=
    BitVec.extractLsb'_append_eq_of_add_le hj
  have high (j : Nat) : (w1 ++ w0).extractLsb' (32 + j) 8 = w1.extractLsb' j 8 := by
    rw [BitVec.extractLsb'_append_eq_of_le (Nat.le_add_right 32 j), Nat.add_sub_cancel_left]
  unfold wordBytes
  rw [← low (j := 0) (by omega), ← low (j := 8) (by omega), ← low (j := 16) (by omega), ← low (j := 24) (by omega),
    ← high 0, ← high 8, ← high 16, ← high 24]
  rfl

/-- R71: the assembled token is put together from its halves, each of two words. -/
theorem assembled_eq_joinHalves (v : Slot) : v.assembled = joinHalves (v.token3 ++ v.token2) (v.token1 ++ v.token0) := by
  unfold Slot.assembled joinHalves
  rw [BitVec.append_assoc, BitVec.cast_eq]

theorem half_zero (v : Slot) : v.half 0 = v.token1 ++ v.token0 := by
  rw [Slot.half, assembled_eq_joinHalves]
  exact append_low _ _

theorem half_one (v : Slot) : v.half 1 = v.token3 ++ v.token2 := by
  rw [Slot.half, assembled_eq_joinHalves]
  exact append_high _ _

end Sys2Proof.Machine

namespace Sys2Proof.Proofs

open Machine

/-- Settles O51: the index of a real state fills the six groups, and 0x02108421 repeats it. -/
theorem targetDecodeInvertsTheEncoding : Obligations.TargetDecodeInvertsTheEncoding :=
  fun v l => ⟨decodeTarget_eq_some_iff v l, encIdx_eq l⟩

/-- Settles O52: each half is two token words, and its chunk their bytes. -/
theorem hashChunksAreTheTokenBytesInOrder : Obligations.HashChunksAreTheTokenBytesInOrder := by
  intro v
  rw [half_zero, half_one, chunk_append, chunk_append]
  rfl

end Sys2Proof.Proofs
end

section
/-! A transition with the correct token, stage by stage (95 S1; R140 to R152). -/

namespace Sys2Proof.Machine

/-- A step that takes the encoding of a well-formed instruction runs that instruction. -/
theorem step_of_encode {s : State} {i : Instr} {acc : Bool} {rest : List Input} (hwf : i.wellFormed = true)
    (h : s.inputs = ⟨encode i, acc⟩ :: rest) : step s = exec i (s.beginReaction ⟨encode i, acc⟩ rest) :=
  step_of_decode h (Proofs.decodeOfEncodeGivesTheInstruction i hwf)

/-- What an accepted start in `s₀` fixes and every stage up to the commit keeps: the requester's operands (R276), the current state, the count already
spent; with the inputs still to come. -/
structure InFlight (s₀ : State) (req : Requester) (m : Fin 25) (rest : List Input) (s : State) : Prop where
  xactReq : s.xactReq = req
  owner : s.owner = s₀.owner
  slotSw : s.slotSw = s₀.slotSw
  slotDbg : s.slotDbg = s₀.slotDbg
  tokens : s.tokens = s₀.tokens
  lcState : s.lcState = s₀.lcState
  lcCnt : s.lcCnt = .count m
  inputs : s.inputs = rest

section
variable {s₀ s : State} {req : Requester} {m : Fin 25} {acc : Bool} {rest : List Input} {f l : LcState}

theorem InFlight.tgt (h : InFlight s₀ req m rest s) : s.tgt = decodeTarget (s₀.slot req).target := by
  rw [State.tgt, h.xactReq, slot_congr h.slotSw h.slotDbg]

theorem InFlight.kind (h : InFlight s₀ req m rest s) (hl : s₀.lcState = .real f)
    (ht : decodeTarget (s₀.slot req).target = some l) :
    requiredTokenFor device.transMatrix s.lcState s.tgt = device.transMatrix f l := by
  rw [h.tgt, h.lcState, hl, ht]
  rfl

theorem InFlight.beginReaction {inp : Input} (h : InFlight s₀ req m (inp :: rest) s) :
    InFlight s₀ req m rest (s.beginReaction inp rest) := { h with inputs := rfl }

/-- R140 to R145: an accepted start whose count program is accepted waits in CNT_PROG. -/
theorem start_waits {n : Fin 25} (hg : s.transRegwen req = true) (hl : s.lcState = .real f)
    (hc : s.lcCnt = .count n) (hn : n.val < 24) (hv : volatileCond (decodeTarget (s.slot req).target) s = false)
    (ha : s.otpAccept = true) :
    ∃ t, start device req s = .next t ∧ t.fsm = .cntProg ∧ t.otpPending = true ∧ t.hashState = s.hashState ∧
      InFlight s req (nextCount (decodeTarget (s.slot req).target) n) s.inputs t := by
  obtain ⟨t, hstart⟩ := start_completes hg hl hc
  refine ⟨t, hstart, ?_⟩
  cases start_end hg hstart with
  | unlocked hv' _ _ | mismatch hv' _ _ => exact absurd (hv.symm.trans hv') nofun
  | full _ hc' _ =>
    cases hc.symm.trans hc'
    exact absurd hn (lt_irrefl _)
  | busy _ _ _ _ _ _ hbusy _ => exact absurd (ha.symm.trans hbusy) nofun
  | waiting _ _ _ hc' _ _ _ ht =>
    cases hc.symm.trans hc'
    subst ht
    exact ⟨rfl, rfl, rfl, rfl, rfl, rfl, rfl, rfl, rfl, rfl, rfl⟩

/-- The step that takes an accepted START. -/
theorem step_start {n : Fin 25} {hi : BitVec 31} (hin : s.inputs = ⟨encode (.start req hi), true⟩ :: rest)
    (hg : s.transRegwen req = true) (hl : s.lcState = .real f) (hc : s.lcCnt = .count n) (hn : n.val < 24)
    (hvol : s.ctrl.volatileRawUnlock = false) :
    ∃ t, step s = .next t ∧ t.fsm = .cntProg ∧ t.otpPending = true ∧ t.hashState = s.hashState ∧
      InFlight s req (nextCount (decodeTarget (s.slot req).target) n) rest t := by
  obtain ⟨t, hstart, hf, hp, hh, h⟩ := start_waits (s := s.beginReaction ⟨encode (.start req hi), true⟩ rest)
    hg hl hc hn (volatileCond_of_disabled _ hvol) rfl
  exact ⟨t, (step_of_encode rfl hin).trans hstart, hf, hp, hh, { h with }⟩

/-- R147 to R149, R101: the acknowledged count of an allowed pair leads to the first half of the token's hash. -/
theorem InFlight.step_countAck (h : InFlight s₀ req m (⟨encode (.otpAck true), acc⟩ :: rest) s) (hf : s.fsm = .cntProg)
    (hp : s.otpPending = true) (hh : s.hashState = .hIdle)
    (hne : requiredTokenFor device.transMatrix s.lcState s.tgt ≠ .invalid) :
    ∃ t, step s = .next t ∧ t.fsm = .tokenHash ∧ t.hashState = .hFirstSent ∧ InFlight s₀ req m rest t := by
  have h' := h.beginReaction
  have hstep :=
    calc step s
        = otpAck device true _ := step_of_encode rfl h.inputs
      _ = ackCntProg device true _ := otpAck_of_cntProg device true hp hf
      _ = transCheck device _ := ackCntProg_ack device _
      _ = requestHash device _ _ := transCheck_of_allowed device hne
      _ = _ := requestHash_of_idle device _ hh
  exact ⟨_, hstep, rfl, rfl, { h' with }⟩

/-- R106: the intermediate response leads to the second half. -/
theorem InFlight.step_halfHashed {a b : Token} (h : InFlight s₀ req m (⟨encode (.hashRsp a b false), acc⟩ :: rest) s)
    (hf : s.fsm = .tokenHash) (hh : s.hashState = .hFirstSent) :
    ∃ t, step s = .next t ∧ t.fsm = .tokenHash ∧ t.hashState = .hSecondSent ∧ InFlight s₀ req m rest t := by
  have h' := h.beginReaction
  exact ⟨_, (step_of_encode rfl h.inputs).trans (hashRsp_intermediate device a b hh), hf, rfl, { h' with }⟩

/-- R150, R151: the right digest leads to the state program. -/
theorem InFlight.step_hashed {e : TokenEntry} {c d : Token}
    (h : InFlight s₀ req m (⟨encode (.hashRsp c d true), true⟩ :: rest) s)
    (hf : s.fsm = .tokenHash) (hh : s.hashState = .hSecondSent) (hl : s₀.lcState = .real f)
    (ht : decodeTarget (s₀.slot req).target = some l) (he : s₀.tokens.entry (device.transMatrix f l) = some e)
    (hv : e.valid = true) (hd : c ^^^ d = e.hashed) :
    ∃ t, step s = .next t ∧ t.fsm = .transProg ∧ t.otpPending = true ∧ t.hashState = .hIdle ∧ t.digest = e.hashed ∧
      InFlight s₀ req m rest t := by
  have h' := h.beginReaction
  have hstep :=
    calc step s
        = hashRsp device c d true _ := step_of_encode rfl h.inputs
      _ = .next (programReq _ _ _) := hashRsp_of_match c d hf hh (h'.lcState.trans hl) (h'.tgt.trans ht) h'.lcCnt (h'.tokens ▸ he) hv hd
      _ = _ := congrArg _ (programReq_of_accepted _ _ rfl)
  exact ⟨_, hstep, rfl, rfl, rfl, rfl, { h' with }⟩

/-- R152: the acknowledged state program commits the target. -/
theorem InFlight.step_stateAck (h : InFlight s₀ req m (⟨encode (.otpAck true), acc⟩ :: rest) s) (hf : s.fsm = .transProg)
    (hp : s.otpPending = true) (ht : decodeTarget (s₀.slot req).target = some l) :
    step s = .next { s.beginReaction ⟨encode (.otpAck true), acc⟩ rest with
      otpPending := false
      lcState := .real l
      status := { s.status with transitionSuccessful := true }
      fsm := committedFsm l } :=
  calc step s
      = otpAck device true _ := step_of_encode rfl h.inputs
    _ = ackTransProg true _ := otpAck_of_transProg device true hp hf
    _ = _ := ackTransProg_ack (h.tgt.trans ht)

end

end Sys2Proof.Machine

namespace Sys2Proof.Proofs

open Machine

/-- Settles O49: each of the five steps leads from one stage that waits to the next; what a stage needs of the operands is what the start fixed. -/
theorem correctTokenCommitsTheTransition : Obligations.CorrectTokenCommitsTheTransition := by
  intro s req hi a b c d f l n e acc rest hin hf ho hh hl hc hn hvol ht he hv hd
  have hne : device.transMatrix f l ≠ .invalid := (exists_entry_iff _ _).1 ⟨e, he⟩
  obtain ⟨s1, hstep1, hf1, hp1, hh1, h1⟩ := step_start hin ((transRegwen_iff s req).2 ⟨ho, hf⟩) hl hc hn hvol
  obtain ⟨s2, hstep2, hf2, hh2, h2⟩ := h1.step_countAck hf1 hp1 (hh1.trans hh) ((h1.kind hl ht).symm ▸ hne)
  obtain ⟨s3, hstep3, hf3, hh3, h3⟩ := h2.step_halfHashed hf2 hh2
  obtain ⟨s4, hstep4, hf4, hp4, hh4, hd4, h4⟩ := h3.step_hashed hf3 hh3 hl ht he hv hd
  have hcount : nextCount (decodeTarget (s.slot req).target) n = if l = .scrap then 24 else n + 1 := by
    simp only [ht, nextCount, Option.some.injEq]
  exact ⟨s1, s2, s3, s4, _, hstep1, hstep2, hstep3, hstep4, h4.step_stateAck hf4 hp4 ht, hf1, hf2, hf3, hf4, rfl,
    h4.lcCnt.trans (congrArg _ hcount), rfl, rfl, rfl, hh4, hd4, h4.owner.trans ho, h4.slotSw, h4.slotDbg, rfl⟩

end Sys2Proof.Proofs
end

section
/-! The symmetry of the two requesters (R258): every shared operation commutes with their exchange. -/

namespace Sys2Proof

open Machine

/-! ### What is read of the state -/

@[simp] theorem swap_fsm (s : State) : (swapRequesters s).fsm = s.fsm := rfl
@[simp] theorem swap_lcState (s : State) : (swapRequesters s).lcState = s.lcState := rfl
@[simp] theorem swap_lcCnt (s : State) : (swapRequesters s).lcCnt = s.lcCnt := rfl
@[simp] theorem swap_owner (s : State) : (swapRequesters s).owner = s.owner.map Requester.other := rfl

@[simp] theorem swap_slot (s : State) (req : Requester) : (swapRequesters s).slot req.other = s.slot req := by
  cases req <;> rfl

@[simp] theorem swap_tgt (s : State) : (swapRequesters s).tgt = s.tgt :=
  congrArg (fun v : Slot => decodeTarget v.target) (swap_slot s s.xactReq)

theorem other_involutive : Function.Involutive Requester.other := by
  intro req
  cases req <;> rfl

theorem swap_owner_iff (s : State) (req : Requester) : (swapRequesters s).owner = some req.other ↔ s.owner = some req := by
  rw [swap_owner, ← Option.map_some, (Option.map_injective other_involutive.injective).eq_iff]

@[simp] theorem swap_transRegwen (s : State) (req : Requester) :
    (swapRequesters s).transRegwen req.other = s.transRegwen req := by
  rw [Bool.eq_iff_iff, transRegwen_iff, transRegwen_iff, swap_owner_iff, swap_fsm]

theorem swap_setSlot (s : State) (req : Requester) (v : Slot) :
    (swapRequesters s).setSlot req.other v = swapRequesters (s.setSlot req v) := by
  cases req <;> rfl

/-! ### The operations of a write -/

/-- An operation behind the gate of R30. -/
theorem swap_gated {req : Requester} {s a b a' b' : State} (ha : a' = swapRequesters a) (hb : b' = swapRequesters b) :
    (if (swapRequesters s).transRegwen req.other then a' else b') = swapRequesters (if s.transRegwen req then a else b) := by
  rw [swap_transRegwen, ha, hb, apply_ite swapRequesters]

theorem claimRegwenWrite_swap (req : Requester) (w : Word) (s : State) :
    claimRegwenWrite req.other w (swapRequesters s) = swapRequesters (claimRegwenWrite req w s) := by
  cases hw : w.getLsbD 0 with
  | true => exact (if_pos hw).trans (congrArg swapRequesters (if_pos hw)).symm
  | false =>
    rw [claimRegwenWrite_of_zero _ _ hw, claimRegwenWrite_of_zero _ _ hw]
    exact swap_gated rfl rfl

theorem ctrlWrite_swap (req : Requester) (w : Word) (s : State) :
    ctrlWrite req.other w (swapRequesters s) = swapRequesters (ctrlWrite req w s) := swap_gated rfl rfl

theorem tokenWrite_swap (req : Requester) (i : Fin 4) (w : Word) (s : State) :
    tokenWrite req.other i w (swapRequesters s) = swapRequesters (tokenWrite req i w s) :=
  swap_gated (by rw [swap_slot, swap_setSlot]) rfl

theorem targetWrite_swap (req : Requester) (w : Word) (s : State) :
    targetWrite req.other w (swapRequesters s) = swapRequesters (targetWrite req w s) :=
  swap_gated (by rw [swap_slot, swap_setSlot]) rfl

theorem claim_swap (req : Requester) (s : State) :
    (claim req.other (swapRequesters s)).2 = swapRequesters (claim req s).2 := by
  cases ho : s.owner with
  | none =>
    have ho' : (swapRequesters s).owner = none := by rw [swap_owner, ho]; rfl
    rw [claim_of_free req ho, claim_of_free req.other ho', rearm_eq, rearm_eq]
    rfl
  | some r =>
    have ho' : (swapRequesters s).owner = some r.other := by rw [swap_owner, ho]; rfl
    rw [claim_of_owned req ho, claim_of_owned req.other ho']

theorem release_swap (req : Requester) (s : State) :
    release req.other (swapRequesters s) = swapRequesters (release req s) := by
  unfold release
  rw [apply_ite swapRequesters]
  exact if_congr (swap_owner_iff s req) rfl rfl

theorem claimWrite_swap (req : Requester) (w : Word) (s : State) :
    claimWrite req.other w (swapRequesters s) = swapRequesters (claimWrite req w s) := by
  unfold claimWrite
  rw [claim_swap, release_swap, apply_ite swapRequesters, apply_ite swapRequesters]
  rfl

/-! ### The operations of a transition -/

theorem noteUnset_swap (k : TokenKind) (s : State) : noteUnset k (swapRequesters s) = swapRequesters (noteUnset k s) := by
  unfold noteUnset
  rw [apply_ite swapRequesters]
  rfl

theorem programReq_swap (a b : EncString) (s : State) :
    programReq a b (swapRequesters s) = swapRequesters (programReq a b s) := by
  unfold programReq
  rw [apply_ite swapRequesters]
  rfl

theorem volatileUnlock_swap (req : Requester) (s : State) :
    volatileUnlock req.other (swapRequesters s) = swapRequesters (volatileUnlock req s) := by
  unfold volatileUnlock
  rw [swap_slot, noteUnset_swap, apply_ite swapRequesters]
  rfl

theorem cntProg_swap (c : Config) (s : State) : cntProg c (swapRequesters s) = swapResult (cntProg c s) := by
  simp only [cntProg, swap_lcState, swap_lcCnt, programReq_swap]
  cases s.lcState with
  | lcsInvalid => rfl
  | real l => cases s.lcCnt <;> rfl

theorem cntIncr_swap (c : Config) (tgt : Option LcState) (s : State) :
    cntIncr c tgt (swapRequesters s) = swapResult (cntIncr c tgt s) := by
  simp only [cntIncr, swap_lcCnt]
  cases s.lcCnt with
  | cntInvalid => rfl
  | count n =>
    rw [apply_ite swapResult, ← cntProg_swap]
    rfl

theorem started_swap (req : Requester) (s : State) :
    started req.other (swapRequesters s) = swapRequesters (started req s) := by
  rw [started_eq, started_eq, swap_slot]
  rfl

theorem start_swap (req : Requester) (s : State) :
    start device req.other (swapRequesters s) = swapResult (start device req s) := by
  cases hg : s.transRegwen req with
  | false =>
    have hlocked (h : s.owner = some req ∧ s.fsm = .idle) : False :=
      Bool.false_ne_true (hg.symm.trans ((transRegwen_iff s req).2 h))
    rw [start_of_locked device hlocked, start_of_locked device fun h => hlocked (h.imp_left (swap_owner_iff s req).1)]
    rfl
  | true =>
    have hg' := (swap_transRegwen s req).trans hg
    have hv' {b : Bool} (hv : volatileCond (decodeTarget (s.slot req).target) s = b) :
        volatileCond (decodeTarget ((swapRequesters s).slot req.other).target) (swapRequesters s) = b := by
      rw [swap_slot]
      exact hv
    cases hv : volatileCond (decodeTarget (s.slot req).target) s with
    | true =>
      rw [start_of_volatile hg hv, start_of_volatile hg' (hv' hv)]
      exact congrArg _ (volatileUnlock_swap req { s with xactReq := req })
    | false => rw [start_of_persistent hg hv, start_of_persistent hg' (hv' hv), started_swap, swap_slot, cntIncr_swap]

/-! ### The completions -/

theorem requestHash_swap (c : Config) (req : Requester) (s : State) :
    requestHash c req.other (swapRequesters s) = swapResult (requestHash c req s) := by
  by_cases hh : s.hashState = .hIdle
  · rw [requestHash_of_idle c req hh, requestHash_of_idle c req.other (s := swapRequesters s) hh, swap_slot]
    rfl
  · rw [requestHash_of_busy c req hh, requestHash_of_busy c req.other (s := swapRequesters s) hh]
    rfl

theorem requestSecondHalf_swap (c : Config) (s : State) :
    requestSecondHalf c (swapRequesters s) = swapRequesters (requestSecondHalf c s) := by
  have hslot : (swapRequesters s).slot (swapRequesters s).hashReq = s.slot s.hashReq := swap_slot s s.hashReq
  unfold requestSecondHalf
  rw [hslot]
  rfl

theorem transCheck_swap (c : Config) (s : State) : transCheck c (swapRequesters s) = swapResult (transCheck c s) := by
  unfold transCheck
  rw [swap_lcState, swap_tgt, apply_ite swapResult, ← requestHash_swap]
  rfl

theorem transProg_swap (c : Config) (s : State) : transProg c (swapRequesters s) = swapResult (transProg c s) := by
  simp only [transProg, swap_tgt, swap_lcCnt, programReq_swap]
  cases s.tgt with
  | none => rfl
  | some l => cases s.lcCnt <;> rfl

theorem resumeFromHash_swap (c : Config) (s : State) :
    resumeFromHash c (swapRequesters s) = swapResult (resumeFromHash c s) := by
  have hkind : requiredTokenFor c.transMatrix (swapRequesters s).lcState (swapRequesters s).tgt =
      requiredTokenFor c.transMatrix s.lcState s.tgt := by rw [swap_lcState, swap_tgt]
  rcases resumeFromHash_cases c s with ⟨hk, h⟩ | ⟨hne, hm, h⟩ | ⟨hne, hm, h⟩ <;> rw [h]
  · exact resumeFromHash_of_forbidden c (hkind.trans hk)
  · exact (resumeFromHash_of_match c hkind hne hm).trans (transProg_swap c { s with fsm := .transProg })
  · rw [resumeFromHash_of_mismatch c hkind hne hm]
    exact congrArg (fun t => Host.Outcome.next (raiseOp .token t)) (noteUnset_swap _ { s with fsm := .tokenCheck })

theorem ackCntProg_swap (c : Config) (ok : Bool) (s : State) :
    ackCntProg c ok (swapRequesters s) = swapResult (ackCntProg c ok s) := by
  cases ok with
  | true => exact transCheck_swap c { s with fsm := .transCheck }
  | false => rfl

theorem ackTransProg_swap (ok : Bool) (s : State) : ackTransProg ok (swapRequesters s) = swapResult (ackTransProg ok s) := by
  cases ok with
  | false => rfl
  | true =>
    simp only [ackTransProg, swap_tgt]
    cases s.tgt <;> rfl

theorem otpAck_swap (c : Config) (ok : Bool) (s : State) : otpAck c ok (swapRequesters s) = swapResult (otpAck c ok s) := by
  cases hp : s.otpPending with
  | false =>
    rw [otpAck_of_unawaited c ok hp]
    exact otpAck_of_unawaited c ok hp
  | true =>
    by_cases h1 : s.fsm = .cntProg
    · rw [otpAck_of_cntProg c ok hp h1, otpAck_of_cntProg c ok (s := swapRequesters s) hp h1]
      exact ackCntProg_swap c ok { s with otpPending := false }
    by_cases h2 : s.fsm = .transProg
    · rw [otpAck_of_transProg c ok hp h2, otpAck_of_transProg c ok (s := swapRequesters s) hp h2]
      exact ackTransProg_swap ok { s with otpPending := false }
    by_cases h3 : s.fsm = .escalate
    · rw [otpAck_of_escalate c ok hp h3]
      exact otpAck_of_escalate c ok hp h3
    · rw [otpAck_out_of_place c ok hp h1 h2 h3]
      exact otpAck_out_of_place c ok hp h1 h2 h3

theorem hashRsp_swap (c : Config) (a b : Token) (d : Bool) (s : State) :
    hashRsp c a b d (swapRequesters s) = swapResult (hashRsp c a b d s) := by
  cases hh : s.hashState with
  | hIdle =>
    rw [hashRsp_of_idle c a b d hh]
    exact hashRsp_of_idle c a b d hh
  | hFirstSent =>
    cases d with
    | true =>
      rw [hashRsp_early c a b hh]
      exact hashRsp_early c a b hh
    | false =>
      rw [hashRsp_intermediate c a b hh, hashRsp_intermediate c a b (s := swapRequesters s) hh, requestSecondHalf_swap]
      rfl
  | hSecondSent =>
    cases d with
    | true =>
      rw [hashRsp_final c a b hh, hashRsp_final c a b (s := swapRequesters s) hh, apply_ite swapResult, ← resumeFromHash_swap]
      rfl
    | false =>
      rw [hashRsp_late c a b hh]
      exact hashRsp_late c a b hh

theorem initReaction_swap (c : Config) (info : OtpInfo) (fr : Bool) (s : State) :
    initReaction c info fr (swapRequesters s) = swapRequesters (initReaction c info fr s) := by
  unfold initReaction
  rw [swap_fsm]
  cases s.fsm <;> rfl

/-! ### The two tables -/

theorem regWrite_swap (req : Requester) (off : BitVec 8) (w : Word) (s : State) :
    regWrite device (swapRequesters s) req.other off w = swapResult (regWrite device s req off w) := by
  have row {n : Nat} {r r' : Result} (h : off.toNat = n)
      (hr : regWrite device (swapRequesters s) req.other (BitVec.ofNat 8 n) w = r') (hswap : r' = swapResult r) :
      regWrite device (swapRequesters s) req.other off w = swapResult r := by
    rw [← ofNat_of_toNat_eq h, hr, hswap]
  generalize hres : regWrite device s req off w = r
  unfold regWrite at hres
  split at hres <;> subst hres
  case h_1 h => exact row h rfl rfl
  case h_2 h => exact row h rfl (congrArg _ (claimRegwenWrite_swap req w s))
  case h_3 h => exact row h rfl (congrArg _ (claimWrite_swap req w s))
  case h_4 h =>
    refine row h rfl ?_
    rw [apply_ite swapResult, ← start_swap]
    rfl
  case h_5 h => exact row h rfl (congrArg _ (ctrlWrite_swap req w s))
  case h_6 h | h_7 h | h_8 h | h_9 h => exact row h rfl (congrArg _ (tokenWrite_swap req _ w s))
  case h_10 h => exact row h rfl (congrArg _ (targetWrite_swap req w s))
  case h_11 =>
    unfold regWrite
    split
    case h_11 => rfl
    all_goals contradiction

theorem claimValue_swap (req : Requester) (s : State) : claimValue req.other (swapRequesters s) = claimValue req s := by
  rw [claimValue_eq, claimValue_eq]
  exact if_congr (swap_owner_iff s req) rfl rfl

theorem replyView_swap (view : Option Word) (v : Word) (s : State) :
    replyView view v (swapRequesters s) = swapRequesters (replyView view v s) := by
  cases view <;> rfl

theorem reply_swap {s : State} {v v' : Word} (h : v' = v) :
    (Host.Outcome.next ((swapRequesters s).reply v') : Result) = swapResult (.next (s.reply v)) := by
  rw [h]
  rfl

theorem exec_decodeRead_swap (req : Requester) (off : BitVec 8) (s : State) :
    exec (decodeRead req.other off) (swapRequesters s) = swapResult (exec (decodeRead req off) s) := by
  have row {n : Nat} {i i' : Instr} (h : off.toNat = n) (hi : decodeRead req.other (BitVec.ofNat 8 n) = i')
      (hswap : exec i' (swapRequesters s) = swapResult (exec i s)) :
      exec (decodeRead req.other off) (swapRequesters s) = swapResult (exec i s) := by
    rw [← ofNat_of_toNat_eq h, hi, hswap]
  generalize hdec : decodeRead req off = i
  unfold decodeRead at hdec
  split at hdec <;> subst hdec
  case h_4 h => exact row h rfl (reply_swap (claimValue_swap req s))
  case h_5 h => exact row h rfl (reply_swap (congrArg bit32 (swap_transRegwen s req)))
  case h_8 h | h_9 h | h_10 h | h_11 h => exact row h rfl (reply_swap (congrArg (Slot.token · _) (swap_slot s req)))
  case h_12 h => exact row h rfl (reply_swap (congrArg Slot.target (swap_slot s req)))
  case h_15 h | h_16 h | h_17 h => exact row h rfl (congrArg _ (replyView_swap _ _ s))
  case h_37 =>
    unfold decodeRead
    split
    case h_37 => split_ifs <;> rfl
    all_goals contradiction
  all_goals
    rename_i h
    exact row h rfl rfl

end Sys2Proof

namespace Sys2Proof.Proofs

open Machine

/-- Settles O54: the reads row by row, the writes through their one table, the events through the operations they consist of. -/
theorem theTwoRequestersAreSymmetric : Obligations.TheTwoRequestersAreSymmetric := by
  refine fun s => ⟨fun req off => exec_decodeRead_swap req off s, fun req off w => ?writes,
    fun info fr => congrArg _ (initReaction_swap device info fr s), fun ok => otpAck_swap device ok s,
    fun a b d => hashRsp_swap device a b d s, rfl⟩
  case writes =>
    rw [exec_decodeWrite, exec_decodeWrite]
    exact regWrite_swap req off w s

end Sys2Proof.Proofs
end
